-- ==== Sys2Proof/Word.lean ====
section
/-! DEFINITION. The word types of ARBC's ports (R70) and the byte of the chip's register space (R33).
Time values are natural numbers of microseconds (R9, R145), so they need no type of their own. -/

namespace Sys2Proof

/-- A byte, bit 0 least significant (R9). -/
abbrev Byte := BitVec 8

/-- A word of the command port (R70, R71). -/
abbrev CmdWord := BitVec 8

/-- A word of the response port for a payload of `errW` bits: PAYLOAD above the 8 bits of the rest (R70, R75). -/
abbrev RespWordOf (errW : Nat) := BitVec (errW + 6 + 2)

/-- A word of the transport request port (R70, R76). -/
abbrev TxnWord := BitVec 26

/-- A word of the transport answer port for a payload of `errW` bits: OK, RDATA, ERR (R70, R78). -/
abbrev AnsWordOf (errW : Nat) := BitVec (1 + 8 + errW)

end Sys2Proof
end

