-- ==== Sys2Proof/Config.lean ====
section
/-! DEFINITION. The parameters of R7 at the values this hardware takes, the words whose width one of them decides, the one
parameter the spec leaves OPEN, and the free values of the environment. -/

namespace Sys2Proof.Config

/-- The eight flags of the CONTROL register (R34). -/
inductive CtlField where
  | lockReq | lockGrant | busConnect | busInit | smbusSwrst | idleTimerDis | smbusDis | priority
deriving DecidableEq, Repr

/-- The eight flags of the STATUS register (R35). No rule of ARBC reads them (R36). -/
inductive StsField where
  | otherLock | busInitFail | busHung | mboxEmpty | mboxFull | testInt | sclIo | sdaIo
deriving DecidableEq, Repr

/-- The two values of ATTACH_ON_RELEASE_ERROR (R7, R171, D14). -/
inductive AttachPolicy where
  | stayUnattached | attachAnyway
deriving DecidableEq, Repr, Inhabited

/-- The implementation parameters of R7. CHIP, XPORT and CLOCK are inputs, not parameters; so is XPORT_CAPS. RESERVE_MS has no
value outside 0..255 (R7, R8). `errW` and `timeW` are widths: the word formats and the counter comparison take them as an argument,
and State, whose types have one width, is built at `Config.errW`. No operation on State reads the two fields (log 23, log 11). -/
structure Params where
  addrControl : Byte
  addrStatus : Byte
  addrReserve : Byte
  autoInc : Byte
  reserveMs : Fin 256
  timeoutUs : Nat
  shortUs : Nat
  longUs : Nat
  ctlBits : CtlField → Fin 8
  stsBits : StsField → Fin 8
  requestedMask : Byte
  channels : Nat
  timeW : Nat
  errW : Nat
  attachOnReleaseError : AttachPolicy

/-- Default CTL_BITS (R7, R34). UNVERIFIED: by the spec's own mark general knowledge, I1 (log 8). Unsafe if the layout is wrong. -/
def ctlBitsDefault : CtlField → Fin 8
  | .lockReq => 0
  | .lockGrant => 1
  | .busConnect => 2
  | .busInit => 3
  | .smbusSwrst => 4
  | .idleTimerDis => 5
  | .smbusDis => 6
  | .priority => 7

/-- Default STS_BITS (R7, R35). UNVERIFIED: by the spec's own mark general knowledge, I2 (log 8). Safe: nothing reads it. -/
def stsBitsDefault : StsField → Fin 8
  | .otherLock => 0
  | .busInitFail => 1
  | .busHung => 2
  | .mboxEmpty => 3
  | .mboxFull => 4
  | .testInt => 5
  | .sclIo => 6
  | .sdaIo => 7

/-- ATTACH_ON_RELEASE_ERROR of this hardware: OPEN in R7 and D14, so it has no value here (log 12). Safe: a statement that
rests on it holds for both values. -/
opaque attachOnReleaseError : AttachPolicy

/-- ERR_W, the width of the transport error payload (R7, D18). The types `ErrPayload`, `RespWord` and `AnsWord`, and with them State,
follow this one number. -/
abbrev errW : Nat := 8

/-- The values of R7 that do not depend on the hardware's OPEN choice, for a given choice. UNVERIFIED: REQUESTED_MASK is the spec's
own decision D4, unsafe both ways (log 9). -/
def paramsWith (policy : AttachPolicy) : Params where
  addrControl := 0x01#8
  addrStatus := 0x02#8
  addrReserve := 0x03#8
  autoInc := 0x80#8
  reserveMs := 20
  timeoutUs := 250000
  shortUs := 0
  longUs := 1000
  ctlBits := ctlBitsDefault
  stsBits := stsBitsDefault
  requestedMask := 0x07#8
  channels := 1
  timeW := 64
  errW := errW
  attachOnReleaseError := policy

/-- The parameters of this hardware (R7). UNVERIFIED: the spec calls the source's literals unaudited (D29, log 10). -/
def hw : Params := paramsWith attachOnReleaseError

end Sys2Proof.Config

namespace Sys2Proof

/-- A transport error payload, ERR_W bits wide (R7, D18). Opaque to ARBC: it is only carried. -/
abbrev ErrPayload := BitVec Config.errW

/-- A word of this hardware's response port (R75): 16 bits. -/
abbrev RespWord := RespWordOf Config.errW

/-- A word of this hardware's transport answer port (R78): 17 bits. -/
abbrev AnsWord := AnsWordOf Config.errW

end Sys2Proof

namespace Sys2Proof.Config

/-! Free values of the environment (R6), applied to the counter `tick` of State once nothing is scripted (log 1, log 2).
They have no body: no proof can see their values. Safe. -/

/-- What HOST presents on the command port: no word, or any word (R6, R40). -/
opaque freeCmd : Nat → Option CmdWord

/-- The answer XPORT gives a transaction, with the byte CHIP returns to a read (R37, R101). -/
opaque freeAns : Nat → AnsWord

/-- How far CLOCK advances before a step, in microseconds (R10: a sample is never less than an earlier one). -/
opaque freeAdvance : Nat → Nat

/-- The level of the capability input XPORT_CAPS (R79). -/
opaque freeCaps : Nat → Bool

end Sys2Proof.Config
end

