-- ==== Sys2Proof/Syntax.lean ====
section
/-! DEFINITION. The instructions of ARBC (R3): the four commands HOST issues on the command port and the three register
transactions ARBC emits on the transport port, one constructor per row of spec/opcode_table.json. -/

namespace Sys2Proof

inductive Instr where
  /-- CMD ATTACH (R170). -/
  | attach
  /-- CMD SELECT with its channel index CH (R140). -/
  | select (ch : BitVec 4)
  /-- CMD RELEASE with its channel index CH (R160). -/
  | release (ch : BitVec 4)
  /-- CMD DETACH (R173). -/
  | detach
  /-- TXN RD_CTL, the read of CONTROL, issued in SEL_RD (R105, R121). -/
  | rdCtl
  /-- TXN WRB_REQ, the request block write, issued in SEL_WR (R106, R122). -/
  | wrbReq
  /-- TXN WR_REL, the release write, issued in REL_WR and ATT_WR (R107, R161, R171). -/
  | wrRel
deriving DecidableEq, Repr

/-- The two ports an instruction word can stand on (R40). -/
inductive Port where
  | command | transport
deriving DecidableEq, Repr

/-- The port of each instruction: the format column of the opcode table (R70, R85). -/
def Instr.port : Instr → Port
  | .attach => .command
  | .select _ => .command
  | .release _ => .command
  | .detach => .command
  | .rdCtl => .transport
  | .wrbReq => .transport
  | .wrRel => .transport

end Sys2Proof
end

