-- ==== Sys2Proof/WellFormed.lean ====
section
/-! DEFINITION. Which instructions are well formed: the channel rule R73. -/

namespace Sys2Proof

/-- `CH < CHANNELS`, the index compared without extension (R73, R81). -/
def channelOk (p : Config.Params) (ch : BitVec 4) : Bool := ch.toNat < p.channels

/-- Only SELECT and RELEASE carry an operand, and its one constraint is R73. -/
def Instr.wfWith (p : Config.Params) : Instr → Bool
  | .attach => true
  | .select ch => channelOk p ch
  | .release ch => channelOk p ch
  | .detach => true
  | .rdCtl => true
  | .wrbReq => true
  | .wrRel => true

/-- Well-formedness on this hardware, where CHANNELS = 1. -/
def Instr.wf (i : Instr) : Bool := i.wfWith Config.hw

end Sys2Proof
end

