-- ==== Sys2Proof/Decode.lean ====
section
/-! DEFINITION. Encodings (spec/30_encoding.md): the derived constants of R8, the CMD and TXN word formats, a decoder that is
total on both ports and rejects by name, and the encoder. The functions ending in `With` take the parameters of R7 as an
argument; the ones without are for this hardware. -/

namespace Sys2Proof

/-! ## Derived constants (R8, R81) -/

/-- `M_f = 1 << CTL_BITS.f`. -/
def ctlMask (p : Config.Params) (f : Config.CtlField) : Byte := 1#8 <<< (p.ctlBits f).val

/-- `ARB_MASK = M_LOCK_REQ | M_LOCK_GRANT | M_BUS_CONNECT`. -/
def arbMask (p : Config.Params) : Byte := ctlMask p .lockReq ||| ctlMask p .lockGrant ||| ctlMask p .busConnect

/-- `REQ_VALUE = M_LOCK_REQ | M_BUS_CONNECT | M_IDLE_TIMER_DIS`. -/
def reqValue (p : Config.Params) : Byte := ctlMask p .lockReq ||| ctlMask p .busConnect ||| ctlMask p .idleTimerDis

/-- `RESERVE_BYTE = zext_8(RESERVE_MS)`. RESERVE_MS fits eight bits by its type, as R8 requires, so nothing wraps. -/
def reserveByte (p : Config.Params) : Byte := BitVec.ofFin p.reserveMs

/-- `ADDR_CTL_BLOCK = ADDR_CONTROL | AUTO_INC`. -/
def addrCtlBlock (p : Config.Params) : Byte := p.addrControl ||| p.autoInc

/-- `RELEASE_VALUE = 0x00`. -/
def releaseValue : Byte := 0x00#8

/-! ## CMD format (R71 to R74) -/

/-- CH in bits 7:4, RSV in bit 3, OP in bits 2:0 (R71). DEDUCED: this layout and those of the other words are the spec's own
decisions D5 to D8, unsafe if the ports differ (log 19). -/
def cmdWord (ch : BitVec 4) (op : BitVec 3) : CmdWord := (ch ++ 0#1 ++ op : BitVec (4 + 1 + 3))

def cmdCh (w : CmdWord) : BitVec 4 := w.extractLsb' 4 4

def cmdRsv (w : CmdWord) : BitVec 1 := w.extractLsb' 3 1

def cmdOp (w : CmdWord) : BitVec 3 := w.extractLsb' 0 3

/-! ## TXN format (R76, R77, R102 to R104) -/

/-- The transport operations XPORT offers, with their operands (R50, R100). -/
inductive Txn where
  | readByte (addr : Byte)
  | writeByte (addr value : Byte)
  | writeBlock (addr v1 v2 : Byte)
deriving DecidableEq, Repr

/-- `KIND << 24 | ADDR << 16 | D0 << 8 | D1` (R76, R77). -/
def txnWord (kind : BitVec 2) (addr d0 d1 : Byte) : TxnWord := (kind ++ addr ++ d0 ++ d1 : BitVec (2 + 8 + 8 + 8))

/-- The request word of an operation (R102, R103, R104). -/
def Txn.word : Txn → TxnWord
  | .readByte a => txnWord 0b00#2 a 0#8 0#8
  | .writeByte a v => txnWord 0b01#2 a v 0#8
  | .writeBlock a v1 v2 => txnWord 0b10#2 a v1 v2

def txnKind (w : TxnWord) : BitVec 2 := w.extractLsb' 24 2

def txnAddr (w : TxnWord) : Byte := w.extractLsb' 16 8

def txnD0 (w : TxnWord) : Byte := w.extractLsb' 8 8

def txnD1 (w : TxnWord) : Byte := w.extractLsb' 0 8

/-- RD_CTL: `read_byte(CONTROL)` (R105). -/
def txnRdCtl (p : Config.Params) : Txn := .readByte p.addrControl

/-- WRB_REQ: `write_block(CONTROL | AUTO_INC, REQ_VALUE, RESERVE_BYTE)` (R106). -/
def txnWrbReq (p : Config.Params) : Txn := .writeBlock (addrCtlBlock p) (reqValue p) (reserveByte p)

/-- WR_REL: `write_byte(CONTROL, 0x00)` (R107). -/
def txnWrRel (p : Config.Params) : Txn := .writeByte p.addrControl releaseValue

/-! ## Decoder -/

/-- Why a word stands for no instruction. -/
inductive DecodeError where
  /-- OP is `0b000`, `0b101`, `0b110` or `0b111` (R72, R74). -/
  | reservedOp (op : BitVec 3)
  /-- RSV = 1 (R71, R74). -/
  | reservedBit
  /-- CH breaks R73. -/
  | channel (ch : BitVec 4)
  /-- KIND = `0b11` is never emitted (R76). -/
  | txnKind
  /-- A TXN word that ARBC does not emit (R77, R85). -/
  | txnNotEmitted
deriving DecidableEq, Repr

/-- A word on one of the two ports that carry instructions. -/
inductive PortWord where
  | cmd (w : CmdWord)
  | txn (w : TxnWord)
deriving DecidableEq, Repr

/-- CMD decoder (R71 to R74). Where several of R74's grounds hold, OP is named first, then RSV, then CH: DESIGN CHOICE,
safe (log 20). -/
def decodeCmdWith (p : Config.Params) (w : CmdWord) : Except DecodeError Instr :=
  match (cmdOp w).toNat with
  | 1 => if cmdRsv w = 1#1 then .error .reservedBit
         else if cmdCh w = 0#4 then .ok .attach else .error (.channel (cmdCh w))
  | 2 => if cmdRsv w = 1#1 then .error .reservedBit
         else if channelOk p (cmdCh w) then .ok (.select (cmdCh w)) else .error (.channel (cmdCh w))
  | 3 => if cmdRsv w = 1#1 then .error .reservedBit
         else if channelOk p (cmdCh w) then .ok (.release (cmdCh w)) else .error (.channel (cmdCh w))
  | 4 => if cmdRsv w = 1#1 then .error .reservedBit
         else if cmdCh w = 0#4 then .ok .detach else .error (.channel (cmdCh w))
  | _ => .error (.reservedOp (cmdOp w))

/-- TXN decoder: the three words of R77, any other is not emitted by ARBC (R85). -/
def decodeTxnWith (p : Config.Params) (w : TxnWord) : Except DecodeError Instr :=
  if w = (txnRdCtl p).word then .ok .rdCtl
  else if w = (txnWrbReq p).word then .ok .wrbReq
  else if w = (txnWrRel p).word then .ok .wrRel
  else if txnKind w = 0b11#2 then .error .txnKind
  else .error .txnNotEmitted

def decodeWith (p : Config.Params) : PortWord → Except DecodeError Instr
  | .cmd w => decodeCmdWith p w
  | .txn w => decodeTxnWith p w

/-- The decoder of this hardware. -/
def decode (w : PortWord) : Except DecodeError Instr := decodeWith Config.hw w

/-! ## Encoder -/

/-- The word of each instruction: R72 for the commands, R77 for the transactions. -/
def encodeWith (p : Config.Params) : Instr → PortWord
  | .attach => .cmd (cmdWord 0#4 0b001#3)
  | .select ch => .cmd (cmdWord ch 0b010#3)
  | .release ch => .cmd (cmdWord ch 0b011#3)
  | .detach => .cmd (cmdWord 0#4 0b100#3)
  | .rdCtl => .txn (txnRdCtl p).word
  | .wrbReq => .txn (txnWrbReq p).word
  | .wrRel => .txn (txnWrRel p).word

/-- The encoder of this hardware. -/
def encode (i : Instr) : PortWord := encodeWith Config.hw i

/-- The port a word stands on. -/
def PortWord.port : PortWord → Port
  | .cmd _ => .command
  | .txn _ => .transport

/-! ## The opcode table's words -/

/-- A word as the opcode table numbers its bits: a CMD row has 8 bits, a TXN row 26, which whole bytes make 32. A number with a
bit set above the format's width is no word of it (log 15). -/
def tableWord (nbits w : Nat) : Option PortWord :=
  if nbits = 8 then
    if w < 2 ^ 8 then some (.cmd (BitVec.ofNat 8 w)) else none
  else if 26 ≤ nbits ∧ nbits ≤ 32 then
    if w < 2 ^ 26 then some (.txn (BitVec.ofNat 26 w)) else none
  else none

/-- The instruction the decoder reads from a word of the opcode table. -/
def decodeTableWord (nbits w : Nat) : Option Instr :=
  match tableWord nbits w with
  | none => none
  | some pw =>
    match decode pw with
    | .ok i => some i
    | .error _ => none

end Sys2Proof
end

