-- ==== Sys2Proof/Machine/State.lean ====
section
/-! DEFINITION. The state of ARBC (R20) with its ports (R40), the reasons a step can stop, and power-on reset (R230). -/

namespace Sys2Proof.Machine

/-- The sequencing state `st`, ARBC's program counter (R21). Code `0b111` names no state. -/
inductive SeqState where
  | unattached | idle | attWr | selRd | selWr | selSlp | relWr
deriving DecidableEq, Repr

/-- What the environment presents on ARBC's input ports during one step (R6, R40, R79; log 1). -/
structure Input where
  /-- The word HOST holds on the command port, if any (R71). -/
  cmd : Option CmdWord
  /-- The answer XPORT gives if the step issues a transaction (R78, R101). -/
  ans : AnsWord
  /-- CLOCK's advance since the step before, in microseconds (R10, R79). -/
  advance : Nat
  /-- The level of XPORT_CAPS (R79). -/
  caps : Bool
deriving DecidableEq, Repr

/-- What passes on ARBC's ports: the lines a run is written in (R83). -/
inductive Event where
  /-- An accepted command word. -/
  | cmd (w : CmdWord)
  /-- A clock sample that a rule took with `Now()` or that ended a wait. -/
  | sample (t : Nat)
  /-- A transaction and its answer. -/
  | txn (w : TxnWord) (a : AnsWord)
  /-- A response word. -/
  | resp (w : RespWord)
deriving DecidableEq, Repr

/-- The six registers of R20; then the model's own fields: the inputs to come, the CLOCK's time, the ports' history, and the
counter that picks free values. -/
structure State where
  /-- Sequencing state (R21). -/
  st : SeqState
  /-- Delay before the next poll, in microseconds (R23). -/
  retryDelay : Nat
  /-- End of the arbitration window, in microseconds (R24). -/
  deadline : Nat
  /-- End of the current sleep, in microseconds (R25). -/
  wakeAt : Nat
  /-- The last CONTROL byte read (R26). -/
  ctlObs : Byte
  /-- Whether ARBC is attached (R27). -/
  attachOk : Bool
  /-- The inputs of the coming steps, the next one first (log 1). -/
  env : List Input
  /-- CLOCK's time at the last step, in microseconds (log 3). -/
  now : Nat
  /-- What passed on the ports, oldest first (R83, log 14). No step reads it. -/
  trace : List Event
  /-- Picks the free values presented when `env` is empty (log 2). -/
  tick : Nat
deriving DecidableEq, Repr

/-- No step of ARBC stops with a fault: ARBC has no traps (R205), and every error is a response (R200). So there is no
constructor. Safe: nothing is stopped. -/
inductive Fault where
deriving DecidableEq, Repr

/-- Why ARBC takes no step (R207). Each is safe: the model stops where the spec gives no step. -/
inductive Refusal where
  /-- `exec` raises it for an instruction without a meaning; no arm of this model does. Safe. -/
  | notModelled (mnemonic : String)
  /-- `fetch` raises it: the command word decodes to nothing (R74, R207). Safe. -/
  | commandWord (e : DecodeError)
  /-- `fetch` raises it for a command presented while one runs, and the commands' meanings for a state that does not accept them
  (R175, R207). Safe. -/
  | commandInState (st : SeqState)
  /-- SELECT and RELEASE raise it for a channel index that R73 does not allow, which no decoded word has. Safe. -/
  | channelOutOfRange (ch : BitVec 4)
  /-- The transactions raise it in a state that does not issue them (R22, R105 to R107); `step` never asks for one there. Safe
  (log 7). -/
  | notIssuedIn (st : SeqState)
deriving DecidableEq, Repr

/-- Power-on reset (R230). `deadline`, `wakeAt` and `ctlObs` are unspecified there: DESIGN CHOICE zero, unsafe (log 4). The
environment's fields: nothing scripted, nothing passed, CLOCK and counter at 0 (log 1, 2, 3, 14). -/
def State.reset : State where
  st := .unattached
  retryDelay := Config.hw.shortUs
  deadline := 0
  wakeAt := 0
  ctlObs := 0x00#8
  attachOk := false
  env := []
  now := 0
  trace := []
  tick := 0

end Sys2Proof.Machine
end

