-- ==== Sys2Proof/Machine/Operands.lean ====
section
/-! DEFINITION. The answer and response words (R75, R78) and the codes of `st` (R21). -/

namespace Sys2Proof.Machine

/-! ## ANS format (R78), for any width of the payload

R78 gives the bits for ERR_W = 8. For another width ERR keeps the low bits, and RDATA and OK stand above it: DEDUCED from what R75
says of RESP, safe, since this hardware has ERR_W = 8 (log 23). -/

def ansOkOf {errW : Nat} (a : AnsWordOf errW) : Bool := a.getLsbD (8 + errW)

def ansRdataOf {errW : Nat} (a : AnsWordOf errW) : Byte := a.extractLsb' errW 8

def ansErrOf {errW : Nat} (a : AnsWordOf errW) : BitVec errW := a.extractLsb' 0 errW

/-- The answer word with the given fields. -/
def ansWordOf {errW : Nat} (ok : Bool) (rdata : Byte) (err : BitVec errW) : AnsWordOf errW := BitVec.ofBool ok ++ rdata ++ err

/-! ## The same at this hardware's width -/

def ansOk (a : AnsWord) : Bool := ansOkOf a

def ansRdata (a : AnsWord) : Byte := ansRdataOf a

def ansErr (a : AnsWord) : ErrPayload := ansErrOf a

/-- What a `read_byte` yields: `Ok(b)` or `Err(e)` (R78, R102). -/
def readResult (a : AnsWord) : Except ErrPayload Byte :=
  if ansOk a then .ok (ansRdata a) else .error (ansErr a)

/-- What a write yields: `Ok` or `Err(e)`; RDATA is ignored (R103, R104). -/
def writeResult (a : AnsWord) : Except ErrPayload Unit :=
  if ansOk a then .ok () else .error (ansErr a)

/-- The answer word with the given fields (R78). -/
def ansWord (ok : Bool) (rdata : Byte) (err : ErrPayload) : AnsWord := ansWordOf ok rdata err

/-! ## RESP format (R75) -/

/-- The four response codes. -/
inductive RespCode where
  | ok | timeout | transport | unsupported
deriving DecidableEq, Repr

def RespCode.bits : RespCode → BitVec 2
  | .ok => 0b00#2
  | .timeout => 0b01#2
  | .transport => 0b10#2
  | .unsupported => 0b11#2

/-- PAYLOAD in bits 8+ERR_W-1:8, zeros in 7:2, CODE in 1:0, for any width of the payload. -/
def respWordOf {errW : Nat} (c : RespCode) (payload : BitVec errW) : RespWordOf errW := payload ++ 0#6 ++ c.bits

/-- The response word of this hardware, with PAYLOAD in bits 15:8. -/
def respWord (c : RespCode) (payload : ErrPayload) : RespWord := respWordOf c payload

/-- CODE and PAYLOAD of a response word. -/
def respCodeBits {errW : Nat} (w : RespWordOf errW) : BitVec 2 := w.extractLsb' 0 2

def respPayload {errW : Nat} (w : RespWordOf errW) : BitVec errW := w.extractLsb' 8 errW

/-! ## Register map of the chip (R33, R39, R58) -/

/-- The registers the spec names. They are the chip's, not ARBC's state (R33, R37). -/
inductive ChipReg where
  | control | status | reserveTime
deriving DecidableEq, Repr

def ChipReg.addr (p : Config.Params) : ChipReg → Byte
  | .control => p.addrControl
  | .status => p.addrStatus
  | .reserveTime => p.addrReserve

/-- The register an access starts at: the AUTO_INC bit is no part of the register number (R39). No meaning elsewhere (R58). -/
def chipRegAt (p : Config.Params) (a : Byte) : Option ChipReg :=
  let n := a &&& ~~~p.autoInc
  if n = p.addrControl then some .control
  else if n = p.addrStatus then some .status
  else if n = p.addrReserve then some .reserveTime
  else none

/-! ## Codes of the sequencing state (R21) -/

def SeqState.code : SeqState → BitVec 3
  | .unattached => 0b000#3
  | .idle => 0b001#3
  | .attWr => 0b010#3
  | .selRd => 0b011#3
  | .selWr => 0b100#3
  | .selSlp => 0b101#3
  | .relWr => 0b110#3

def SeqState.ofCode (c : BitVec 3) : Option SeqState :=
  match c.toNat with
  | 0 => some .unattached
  | 1 => some .idle
  | 2 => some .attWr
  | 3 => some .selRd
  | 4 => some .selWr
  | 5 => some .selSlp
  | 6 => some .relWr
  | _ => none

/-- ARBC is busy while a command runs (R21, R175). -/
def SeqState.busy : SeqState → Bool
  | .unattached => false
  | .idle => false
  | .attWr => true
  | .selRd => true
  | .selWr => true
  | .selSlp => true
  | .relWr => true

end Sys2Proof.Machine
end

