-- ==== Sys2Proof/Machine/Flags.lean ====
section
/-! DEFINITION. ARBC has no flags (R28). This file holds the conditions its steps test: the predicates on a CONTROL byte (R29 to
R32), the fields of the chip's registers (R34, R35), and the hardware's time comparison (R145). -/

namespace Sys2Proof.Machine

/-- `connected(b) := (b & ARB_MASK) == ARB_MASK` (R30). -/
def connected (p : Config.Params) (b : Byte) : Bool := b &&& arbMask p == arbMask p

/-- `requested(b) := (b & REQUESTED_MASK) == M_LOCK_REQ` (R31). -/
def requested (p : Config.Params) (b : Byte) : Bool := b &&& p.requestedMask == ctlMask p .lockReq

/-- The three classes of a CONTROL byte (R29). -/
inductive ByteClass where
  | connected | requested | other
deriving DecidableEq, Repr

/-- `connected` is tested first, then `requested`, else the byte is "other" (R29, R206). -/
def classify (p : Config.Params) (b : Byte) : ByteClass :=
  if connected p b then .connected else if requested p b then .requested else .other

/-- One flag of a CONTROL byte (R34). -/
def ctlBit (p : Config.Params) (f : Config.CtlField) (b : Byte) : Bool := b.getLsbD (p.ctlBits f).val

/-- One flag of a STATUS byte (R35). Nothing in ARBC reads STATUS (R36); the layout is recorded for the reader. -/
def stsBit (p : Config.Params) (f : Config.StsField) (b : Byte) : Bool := b.getLsbD (p.stsBits f).val

/-- The comparison of a hardware with a `w`-bit counter: the difference `t - x`, read as signed, is not negative (R145). The
machine compares natural numbers instead (log 11). -/
def timeGeHw (w : Nat) (t x : BitVec w) : Bool := decide (0 ≤ (t - x).toInt)

end Sys2Proof.Machine
end

