-- ==== Sys2Proof/Machine/Ops.lean ====
section
/-! DEFINITION. The pseudocode primitives of R10 as operations on State, the end of a command with success or with an error
(R204), and the sleep entry of SELECT (R143). An operation reads the inputs of the current step through `input`; the
environment moves on by `advance`, once, at the end of a step. -/

namespace Sys2Proof.Machine

/-- The inputs of the current step: the next scripted record, or free values when nothing is scripted (log 1). -/
def State.input (s : State) : Input :=
  match s.env with
  | inp :: _ => inp
  | [] =>
    { cmd := Config.freeCmd s.tick, ans := Config.freeAns s.tick,
      advance := Config.freeAdvance s.tick, caps := Config.freeCaps s.tick }

/-- `Now()` during the current step: never less than an earlier sample (R10). -/
def State.sample (s : State) : Nat := s.now + s.input.advance

/-- The environment moves on to the inputs of the next step. -/
def State.advance (s : State) : State :=
  { s with now := s.sample, env := s.env.tail, tick := s.tick + 1 }

/-- Events pass on the ports. -/
def State.emit (s : State) (es : List Event) : State := { s with trace := s.trace ++ es }

/-! ## Transactions (R102 to R104) -/

/-- One transaction: the request word goes out and its answer comes back in the same step (R10, R60). DEDUCED: an answer always
comes and nothing else uses the transport meanwhile, unsafe (log 16); what it leaves in the chip is no state, safe (log 13). -/
def State.transact (s : State) (t : Txn) : State := s.emit [.txn t.word s.input.ans]

/-- `MemRead(a, 1)` (R102). -/
def memRead (a : Byte) (s : State) : Except ErrPayload Byte × State :=
  (readResult s.input.ans, s.transact (.readByte a))

/-- `MemWrite(a, 1, v)` (R103). -/
def memWrite1 (a v : Byte) (s : State) : Except ErrPayload Unit × State :=
  (writeResult s.input.ans, s.transact (.writeByte a v))

/-- `MemWrite(a, 2, {v1, v2})` (R104). -/
def memWrite2 (a v1 v2 : Byte) (s : State) : Except ErrPayload Unit × State :=
  (writeResult s.input.ans, s.transact (.writeBlock a v1 v2))

/-! ## Responses and errors (R75, R200, R204) -/

/-- `Respond(c, p)`: exactly one response word (R10, R75). -/
def State.respond (s : State) (c : RespCode) (payload : ErrPayload) : State := s.emit [.resp (respWord c payload)]

/-- `Respond(OK, 0); st <- target`. -/
def State.succeed (s : State) (target : SeqState) : State := { s.respond .ok 0#_ with st := target }

/-- The error outcomes (R200). -/
inductive ArbcError where
  | transport (e : ErrPayload)
  | timeout
  | unsupported
deriving DecidableEq, Repr

/-- The response code of each error (R200). -/
def ArbcError.code : ArbcError → RespCode
  | .transport _ => .transport
  | .timeout => .timeout
  | .unsupported => .unsupported

/-- The information each error records: only a transport error has any, passed on verbatim (R200, R201). -/
def ArbcError.payload : ArbcError → ErrPayload
  | .transport e => e
  | .timeout => 0#_
  | .unsupported => 0#_

/-- The response word of an error. -/
def ArbcError.word (x : ArbcError) : RespWord := respWord x.code x.payload

/-- Where an error leaves ARBC: in IDLE, but in UNATTACHED for Unsupported and for the release write of ATTACH (R204). -/
def raiseTarget (x : ArbcError) (st : SeqState) : SeqState :=
  match x, st with
  | .unsupported, _ => .unattached
  | .transport _, .attWr => .unattached
  | .transport _, _ => .idle
  | .timeout, _ => .idle

/-- `raise X(info)`, what taking an exception is on ARBC (R204): the response of R200 goes out and `st` returns to where the
command came from; every other register keeps its value. There is no return from it (R205). -/
def State.raise (s : State) (x : ArbcError) : State :=
  { s.respond x.code x.payload with st := raiseTarget x s.st }

/-! ## SELECT sleep entry (R143) -/

/-- `t1 <- Now(); wake_at <- t1 + retry_delay; st <- SEL_SLP`. -/
def State.sleepEntry (s : State) : State :=
  { s.emit [.sample s.sample] with wakeAt := s.sample + s.retryDelay, st := .selSlp }

/-- The accepted command's word passes on the command port. -/
def State.acceptWord (s : State) (i : Instr) : State :=
  match encode i with
  | .cmd w => s.emit [.cmd w]
  | .txn _ => s

end Sys2Proof.Machine
end

