-- ==== Sys2Proof/Machine/Lifecycle.lean ====
section
/-! DEFINITION. ATTACH and DETACH (spec/44_attach_detach.md). -/

namespace Sys2Proof.Machine

/-- ATTACH accept step (R170): the capability check, then ATT_WR. DEDUCED: like every command it is accepted by `st` alone (R175),
unsafe only in states no run reaches (log 22), and XPORT_CAPS speaks of the block write only, unsafe (log 17). -/
def execAttach (s : State) : Host.Outcome State Fault Refusal :=
  if s.st = .unattached then
    let s1 := s.acceptWord .attach
    if s.input.caps then .next { s1 with st := .attWr }.advance
    else .next (s1.raise .unsupported).advance
  else .refused (.commandInState s.st)

/-- The ATT_WR step, the attach-time reset (R171), for a given parameter set. DEDUCED: `attach_ok` is set here and not before,
unsafe where R27's derived clause is meant (log 5). -/
def attachReset (p : Config.Params) (s : State) : State :=
  match memWrite1 p.addrControl releaseValue s with
  | (.ok _, s1) => { s1 with attachOk := true }.succeed .idle
  | (.error e, s1) =>
    match p.attachOnReleaseError with
    | .stayUnattached => s1.raise (.transport e)
    | .attachAnyway => { s1 with attachOk := true }.succeed .idle

/-- DETACH, one step, no transaction (R173). -/
def execDetach (s : State) : Host.Outcome State Fault Refusal :=
  if s.st = .idle then
    .next (({ s.acceptWord .detach with attachOk := false }).succeed .unattached).advance
  else .refused (.commandInState s.st)

end Sys2Proof.Machine
end

