-- ==== Sys2Proof/Machine/Release.lean ====
section
/-! DEFINITION. RELEASE (spec/43_release.md) and WR_REL, the write that RELEASE and ATTACH share (R107). -/

namespace Sys2Proof.Machine

/-- RELEASE accept step (R160). -/
def execRelease (ch : BitVec 4) (s : State) : Host.Outcome State Fault Refusal :=
  if channelOk Config.hw ch then
    if s.st = .idle then .next { s.acceptWord (.release ch) with st := .relWr }.advance
    else .refused (.commandInState s.st)
  else .refused (.channelOutOfRange ch)

/-- The REL_WR step (R161) for a given parameter set. -/
def releaseWrite (p : Config.Params) (s : State) : State :=
  match memWrite1 p.addrControl releaseValue s with
  | (.ok _, s1) => s1.succeed .idle
  | (.error e, s1) => s1.raise (.transport e)

/-- WR_REL with the step that issues it: REL_WR of RELEASE (R161) or ATT_WR of ATTACH (R171). -/
def execWrRel (s : State) : Host.Outcome State Fault Refusal :=
  match s.st with
  | .relWr => .next (releaseWrite Config.hw s).advance
  | .attWr => .next (attachReset Config.hw s).advance
  | st => .refused (.notIssuedIn st)

end Sys2Proof.Machine
end

