-- ==== Sys2Proof/Machine/Select.lean ====
section
/-! DEFINITION. SELECT (spec/42_select.md) and the steps of ARBITRATE (spec/41_arbitrate.md): the accept step, the read phase,
the request phase, and the sleep with its deadline check. -/

namespace Sys2Proof.Machine

/-- SELECT accept step (R141). -/
def execSelect (ch : BitVec 4) (s : State) : Host.Outcome State Fault Refusal :=
  if channelOk Config.hw ch then
    if s.st = .idle then
      .next ({ (s.acceptWord (.select ch)).emit [.sample s.sample] with
        retryDelay := Config.hw.shortUs
        deadline := s.sample + Config.hw.timeoutUs
        st := .selRd }).advance
    else .refused (.commandInState s.st)
  else .refused (.channelOutOfRange ch)

/-- The read phase of ARBITRATE after a successful read of `b` (R121, R142, R143). -/
def arbitrateOn (p : Config.Params) (b : Byte) (s : State) : State :=
  match classify p b with
  | .connected => s.succeed .idle
  | .requested => { s with retryDelay := p.longUs }.sleepEntry
  | .other => { s with st := .selWr }

/-- The SEL_RD step (R121) for a given parameter set. -/
def arbitrateRead (p : Config.Params) (s : State) : State :=
  match memRead p.addrControl s with
  | (.ok b, s1) => arbitrateOn p b { s1 with ctlObs := b }
  | (.error e, s1) => s1.raise (.transport e)

/-- The SEL_WR step (R122) for a given parameter set. -/
def arbitrateRequest (p : Config.Params) (s : State) : State :=
  match memWrite2 (addrCtlBlock p) (reqValue p) (reserveByte p) s with
  | (.ok _, s1) => { s1 with retryDelay := p.shortUs }.sleepEntry
  | (.error e, s1) => s1.raise (.transport e)

/-- RD_CTL with the step that issues it (R105, R121). -/
def execRdCtl (s : State) : Host.Outcome State Fault Refusal :=
  if s.st = .selRd then .next (arbitrateRead Config.hw s).advance
  else .refused (.notIssuedIn s.st)

/-- WRB_REQ with the step that issues it (R106, R122). -/
def execWrbReq (s : State) : Host.Outcome State Fault Refusal :=
  if s.st = .selWr then .next (arbitrateRequest Config.hw s).advance
  else .refused (.notIssuedIn s.st)

/-- The step taken in SEL_SLP (R144). While the sample is below `wake_at` ARBC holds (R10, R215): only the environment moves
(log 18). -/
def sleepStep (s : State) : State :=
  if s.wakeAt ≤ s.sample then
    let s1 := s.emit [.sample s.sample]
    if s.deadline ≤ s.sample then (s1.raise .timeout).advance
    else { s1 with st := .selRd }.advance
  else s.advance

end Sys2Proof.Machine
end

