-- ==== Sys2Proof/Machine/Dispatch.lean ====
section
/-! DEFINITION. The meaning of each instruction, one arm per constructor. -/

namespace Sys2Proof.Machine

def exec (i : Instr) (s : State) : Host.Outcome State Fault Refusal :=
  match i with
  | .attach => Sys2Proof.Machine.execAttach s
  | .select ch => Sys2Proof.Machine.execSelect ch s
  | .release ch => Sys2Proof.Machine.execRelease ch s
  | .detach => Sys2Proof.Machine.execDetach s
  | .rdCtl => Sys2Proof.Machine.execRdCtl s
  | .wrbReq => Sys2Proof.Machine.execWrbReq s
  | .wrRel => Sys2Proof.Machine.execWrRel s

end Sys2Proof.Machine
end

