-- ==== Sys2Proof/Machine/Fetch.lean ====
section
/-! DEFINITION. What the next step of ARBC is. ARBC fetches no program (R65): a waiting state takes the word on the command port,
a busy state selects its own step (R21, R85). -/

namespace Sys2Proof.Machine

/-- What the next step is. -/
inductive Fetch where
  /-- An instruction: an accepted command or the transaction of the current state. -/
  | run (i : Instr)
  /-- The internal step of SEL_SLP (R144). -/
  | sleep
  /-- IDLE or UNATTACHED with no command: ARBC waits (R215). -/
  | wait
  /-- A command word that ARBC refuses (R207). -/
  | refuse (r : Refusal)
deriving DecidableEq, Repr

/-- In a waiting state: decode the word on the command port, if there is one (R74, R215). -/
def fetchCommand (s : State) : Fetch :=
  match s.input.cmd with
  | none => .wait
  | some w =>
    match decode (.cmd w) with
    | .ok i => .run i
    | .error e => .refuse (.commandWord e)

/-- In a busy state: a command presented now is refused (R175, R207), else the step `f` is taken. DEDUCED: a refusal ends the run,
safe (log 6). -/
def fetchBusy (s : State) (f : Fetch) : Fetch :=
  match s.input.cmd with
  | none => f
  | some _ => .refuse (.commandInState s.st)

def fetch (s : State) : Fetch :=
  match s.st with
  | .unattached => fetchCommand s
  | .idle => fetchCommand s
  | .attWr => fetchBusy s (.run .wrRel)
  | .selRd => fetchBusy s (.run .rdCtl)
  | .selWr => fetchBusy s (.run .wrbReq)
  | .selSlp => fetchBusy s .sleep
  | .relWr => fetchBusy s (.run .wrRel)

/-- What the environment presents beside a word placed by `placeWord` when nothing is scripted: the capability is there, a
transaction succeeds and reads 0x00, CLOCK stands still. A stimulus, no fact about the hardware: DESIGN CHOICE (log 15). -/
def stimulus : Input := { cmd := none, ans := ansWord true 0x00#8 0#_, advance := 0, caps := true }

/-- The record `placeWord` writes for the next step: the scripted one or the stimulus, with the given command port. -/
def placedInput (s : State) (cmd : Option CmdWord) : Input := { s.env.headD stimulus with cmd := cmd }

/-- Puts ARBC where its very next step runs the word (log 15): the state that accepts the command, with the word on the command
port, or the state that issues the transaction, with no command. A command word that decodes to nothing is presented to a
waiting ARBC; a TXN word that ARBC never emits changes nothing. -/
def placeWord (s : State) (w : PortWord) : State :=
  let present (cmd : Option CmdWord) : State := { s with env := placedInput s cmd :: s.env.tail }
  match w, decode w with
  | .cmd c, .ok .attach => { present (some c) with st := .unattached, attachOk := false }
  | .cmd c, .ok _ => { present (some c) with st := .idle, attachOk := true }
  | .cmd c, .error _ => { present (some c) with st := if s.st.busy then .idle else s.st }
  | .txn _, .ok .rdCtl => { present none with st := .selRd, attachOk := true }
  | .txn _, .ok .wrbReq => { present none with st := .selWr, attachOk := true }
  | .txn _, .ok .wrRel => { present none with st := if s.attachOk then .relWr else .attWr }
  | .txn _, .ok _ => s
  | .txn _, .error _ => s

end Sys2Proof.Machine
end

