-- ==== Sys2Proof/Machine/Step.lean ====
section
/-! DEFINITION. One step of ARBC (R22), and the placing of a word so that the next step runs it. -/

namespace Sys2Proof.Machine

/-- One step: the fetched instruction, the internal step of SEL_SLP, a wait in which only the environment moves (R215), or the
refusal of a command word (R207). -/
def step (s : State) : Host.Outcome State Fault Refusal :=
  match fetch s with
  | .run i => exec i s
  | .sleep => .next (sleepStep s)
  | .wait => .next s.advance
  | .refuse r => .refused r

/-- The state in which the next step runs a word of the opcode table (log 15). -/
def State.withFetchWord (s : State) (nbits w : Nat) : State :=
  match tableWord nbits w with
  | some pw => placeWord s pw
  | none => s

end Sys2Proof.Machine
end

