-- ==== Sys2Proof/Safety.lean ====
section
/-! DEFINITION. The terms in which claims about runs are made: what a list of port events holds (R83), and the invariants that
every step of ARBC keeps. -/

namespace Sys2Proof.Machine

/-! ## Reading the ports' history -/

/-- The accepted command words. -/
def commandsIn (tr : List Event) : List CmdWord :=
  tr.filterMap fun e => match e with
    | .cmd w => some w
    | .sample _ => none
    | .txn _ _ => none
    | .resp _ => none

/-- The clock samples taken. -/
def samplesIn (tr : List Event) : List Nat :=
  tr.filterMap fun e => match e with
    | .cmd _ => none
    | .sample t => some t
    | .txn _ _ => none
    | .resp _ => none

/-- The transaction words issued. -/
def transactionsIn (tr : List Event) : List TxnWord :=
  tr.filterMap fun e => match e with
    | .cmd _ => none
    | .sample _ => none
    | .txn w _ => some w
    | .resp _ => none

/-- The response words emitted. -/
def responsesIn (tr : List Event) : List RespWord :=
  tr.filterMap fun e => match e with
    | .cmd _ => none
    | .sample _ => none
    | .txn _ _ => none
    | .resp w => some w

/-- What passed on the ports between `s` and a later `t`. -/
def newEvents (s t : State) : List Event := t.trace.drop s.trace.length

/-- `n` steps, stopping at the first refusal: `Host.Core.run` of `Sys2Proof.core` (Laws/Safety.lean, `run_eq_core_run`). -/
def run : Nat → State → Host.Outcome State Fault Refusal
  | 0, s => .next s
  | n + 1, s =>
    match step s with
    | .next t => run n t
    | .fault r => .fault r
    | .refused r => .refused r

/-- `n` steps from `s` lead to `t`. -/
def runsTo (n : Nat) (s t : State) : Prop := run n s = .next t

/-! ## Invariants -/

/-- A SELECT is running (R21, R140). -/
def SeqState.inSelect : SeqState → Bool
  | .unattached => false
  | .idle => false
  | .attWr => false
  | .selRd => true
  | .selWr => true
  | .selSlp => true
  | .relWr => false

/-- What the registers hold (R23 to R25, R27): `attach_ok` is set from a successful ATTACH until DETACH (in ATT_WR it is 0 by
log 5, DEDUCED, unsafe), `retry_delay` is one of the two delays, and while a SELECT runs its times lie no further ahead of CLOCK
than the configured waits. -/
structure RegisterInv (s : State) : Prop where
  attached : s.attachOk = true ↔ s.st ≠ .unattached ∧ s.st ≠ .attWr
  delay : s.retryDelay = Config.hw.shortUs ∨ s.retryDelay = Config.hw.longUs
  window : s.st.inSelect = true → s.deadline ≤ s.now + Config.hw.timeoutUs
  sleeping : s.st = .selSlp → s.wakeAt ≤ s.now + s.retryDelay

/-- Exactly one response per accepted command, the running one still owed (R40, R200, D31). -/
def OneResponsePerCommand (s : State) : Prop :=
  (commandsIn s.trace).length = (responsesIn s.trace).length + if s.st.busy then 1 else 0

/-- Only RD_CTL, WRB_REQ and WR_REL were ever emitted (R108). -/
def OnlyThreeTransactions (s : State) : Prop :=
  ∀ w ∈ transactionsIn s.trace, w = 0x0010000#26 ∨ w = 0x2812514#26 ∨ w = 0x1010000#26

/-- The history ends with a CONTROL read that was answered with a byte of class "other". -/
def EndsWithOtherRead (tr : List Event) : Prop :=
  ∃ before a b, tr = before ++ [.txn 0x0010000#26 a] ∧ readResult a = .ok b ∧ classify Config.hw b = .other

/-- Every request write directly follows a read of class "other", and SEL_WR is only entered by one (R106, R123). -/
structure RequestsFollowOtherReads (s : State) : Prop where
  past : ∀ before a after, s.trace = before ++ .txn 0x2812514#26 a :: after → EndsWithOtherRead before
  pending : s.st = .selWr → EndsWithOtherRead s.trace

/-- Clock samples never decrease, and none lies ahead of CLOCK (R10). -/
structure SamplesOrdered (s : State) : Prop where
  sorted : (samplesIn s.trace).Pairwise (· ≤ ·)
  past : ∀ t ∈ samplesIn s.trace, t ≤ s.now

end Sys2Proof.Machine
end

