-- ==== Sys2Proof/Certificates/Slice0/Obligations.lean ====
section
/-! DEFINITION. The statements for the provers. Each docstring names the rule of spec/ it formalises. A next state is written out
field by field as a change of the state before, so an equation states the result and the whole frame together. In every one of
them `now`, `env` and `tick` are the environment's (log 1, 2, 3): they move on by one input record, which no rule gives. -/

open Sys2Proof Sys2Proof.Machine

/-! ## Encodings -/

/-- R71 to R73, R76, R77, R85: decoding the word of a well-formed instruction gives it back, whatever the parameters of R7 are
(any number of channels, any CONTROL layout, any addresses). -/
def Obligations.DecodeOfEncodeIsIdentity : Prop :=
  ∀ (p : Config.Params) (i : Instr), i.wfWith p = true → decodeWith p (encodeWith p i) = .ok i

/-- R72 to R74, R77, R85: the other direction. A word that decodes is the word of the instruction it decodes to, and that
instruction is well formed: no second word has a meaning. -/
def Obligations.DecodedWordIsTheEncodedOne : Prop :=
  ∀ (p : Config.Params) (w : PortWord) (i : Instr),
    decodeWith p w = .ok i → encodeWith p i = w ∧ i.wfWith p = true

/-- The words of spec/opcode_table.json, written out bit by bit from R71 and R76 (CH, RSV, OP; KIND, ADDR, D0, D1). That a number
of the table stands for a command word at 8 bits, and a 26-bit TXN word for a number of 32 bits with the bits above 25 zero, is the
model's choice (DESIGN CHOICE, log 15). -/
def Obligations.OpcodeTableWordsDecode : Prop :=
  decode (.cmd 0b0000_0_001#8) = .ok .attach ∧
  decode (.cmd 0b0000_0_010#8) = .ok (.select 0#4) ∧
  decode (.cmd 0b0000_0_011#8) = .ok (.release 0#4) ∧
  decode (.cmd 0b0000_0_100#8) = .ok .detach ∧
  decode (.txn 0b00_00000001_00000000_00000000#26) = .ok .rdCtl ∧
  decode (.txn 0b10_10000001_00100101_00010100#26) = .ok .wrbReq ∧
  decode (.txn 0b01_00000001_00000000_00000000#26) = .ok .wrRel ∧
  decodeTableWord 8 0x01 = some .attach ∧ decodeTableWord 8 0x02 = some (.select 0#4) ∧
  decodeTableWord 8 0x03 = some (.release 0#4) ∧ decodeTableWord 8 0x04 = some .detach ∧
  decodeTableWord 32 0x0010000 = some .rdCtl ∧ decodeTableWord 32 0x2812514 = some .wrbReq ∧
  decodeTableWord 32 0x1010000 = some .wrRel

/-- R74: a command word with a reserved OP, with RSV = 1, or with a CH other than 0 is refused in every state, and of the 256
words exactly 0x01, 0x02, 0x03 and 0x04 decode, to ATTACH, SELECT 0, RELEASE 0 and DETACH. A refusal has no next state: no step,
no response. -/
def Obligations.ReservedCommandWordsAreRefused : Prop :=
  (∀ (s : State) (w : CmdWord), s.input.cmd = some w →
    (w.extractLsb' 0 3 = 0b000#3 ∨ w.extractLsb' 0 3 = 0b101#3 ∨ w.extractLsb' 0 3 = 0b110#3 ∨ w.extractLsb' 0 3 = 0b111#3
      ∨ w.extractLsb' 3 1 = 1#1 ∨ w.extractLsb' 4 4 ≠ 0#4) →
    ∃ r, step s = .refused r) ∧
  (∀ (w : CmdWord) (i : Instr), decode (.cmd w) = .ok i ↔
    w = 0x01#8 ∧ i = .attach ∨ w = 0x02#8 ∧ i = .select 0#4 ∨ w = 0x03#8 ∧ i = .release 0#4 ∨ w = 0x04#8 ∧ i = .detach)

/-- R75: the fields of every response word, and the code of each result. -/
def Obligations.ResponseWordFields : Prop :=
  ∀ (c : RespCode) (e : Byte),
    (respWord c e).extractLsb' 8 8 = e ∧ (respWord c e).extractLsb' 2 6 = 0#6 ∧
    (respWord c e).extractLsb' 0 2 =
      (match c with | .ok => 0b00#2 | .timeout => 0b01#2 | .transport => 0b10#2 | .unsupported => 0b11#2) ∧
    (ArbcError.transport e).word = respWord .transport e ∧ ArbcError.timeout.word = 0x0001#16 ∧
    ArbcError.unsupported.word = 0x0003#16 ∧ respWord .ok 0x00#8 = 0x0000#16

/-- R76, R102 to R104: the fields of the request word of each transport operation. -/
def Obligations.TransactionWordFields : Prop :=
  ∀ a v1 v2 : Byte,
    (let w := (Txn.readByte a).word
     w.extractLsb' 24 2 = 0b00#2 ∧ w.extractLsb' 16 8 = a ∧ w.extractLsb' 8 8 = 0#8 ∧ w.extractLsb' 0 8 = 0#8) ∧
    (let w := (Txn.writeByte a v1).word
     w.extractLsb' 24 2 = 0b01#2 ∧ w.extractLsb' 16 8 = a ∧ w.extractLsb' 8 8 = v1 ∧ w.extractLsb' 0 8 = 0#8) ∧
    (let w := (Txn.writeBlock a v1 v2).word
     w.extractLsb' 24 2 = 0b10#2 ∧ w.extractLsb' 16 8 = a ∧ w.extractLsb' 8 8 = v1 ∧ w.extractLsb' 0 8 = v2)

/-- R78: OK in bit 16 picks between RDATA in bits 15:8 and ERR in bits 7:0; the field that does not count is ignored. -/
def Obligations.AnswerWordFields : Prop :=
  ∀ a : AnsWord,
    (a.extractLsb' 16 1 = 1#1 → readResult a = .ok (a.extractLsb' 8 8) ∧ writeResult a = .ok ()) ∧
    (a.extractLsb' 16 1 = 0#1 → readResult a = .error (a.extractLsb' 0 8) ∧ writeResult a = .error (a.extractLsb' 0 8))

/-- R21: the codes of the seven states; no state has the code `0b111`. -/
def Obligations.SequencingStateCodes : Prop :=
  SeqState.unattached.code = 0b000#3 ∧ SeqState.idle.code = 0b001#3 ∧ SeqState.attWr.code = 0b010#3 ∧
  SeqState.selRd.code = 0b011#3 ∧ SeqState.selWr.code = 0b100#3 ∧ SeqState.selSlp.code = 0b101#3 ∧
  SeqState.relWr.code = 0b110#3 ∧ SeqState.ofCode 0b111#3 = none ∧
  ∀ st : SeqState, st.code ≠ 0b111#3 ∧ SeqState.ofCode st.code = some st

/-- R8 and the parameters of R7 it computes from: the values of this hardware. -/
def Obligations.DerivedConstants : Prop :=
  ctlMask Config.hw .lockReq = 0x01#8 ∧ ctlMask Config.hw .lockGrant = 0x02#8 ∧ ctlMask Config.hw .busConnect = 0x04#8 ∧
  ctlMask Config.hw .busInit = 0x08#8 ∧ ctlMask Config.hw .smbusSwrst = 0x10#8 ∧
  ctlMask Config.hw .idleTimerDis = 0x20#8 ∧ ctlMask Config.hw .smbusDis = 0x40#8 ∧ ctlMask Config.hw .priority = 0x80#8 ∧
  arbMask Config.hw = 0x07#8 ∧ reqValue Config.hw = 0x25#8 ∧ reserveByte Config.hw = 0x14#8 ∧
  addrCtlBlock Config.hw = 0x81#8 ∧ releaseValue = 0x00#8 ∧ Config.hw.requestedMask = arbMask Config.hw ∧
  Config.hw.timeoutUs = 250000 ∧ Config.hw.shortUs = 0 ∧ Config.hw.longUs = 1000 ∧ Config.hw.channels = 1 ∧
  Config.hw.timeW = 64 ∧ Config.hw.errW = 8 ∧ Config.hw.errW = Config.errW

/-- R8, R34, R80 for every CONTROL layout with distinct positions: the request value sets LOCK_REQ, BUS_CONNECT and
IDLE_TIMER_DIS and clears the five other flags; the release value clears all eight. -/
def Obligations.RequestSetsExactlyThreeFlags : Prop :=
  ∀ (p : Config.Params) (f : Config.CtlField), Function.Injective p.ctlBits →
    (ctlBit p f (reqValue p) = true ↔ f = .lockReq ∨ f = .busConnect ∨ f = .idleTimerDis) ∧
    ctlBit p f releaseValue = false

/-! ## Classes of a CONTROL byte -/

/-- R29 with the two masks D4 names, for every CONTROL layout with distinct positions: the two predicates exclude each other, and
the class is the first that holds of connected, requested, other. -/
def Obligations.ControlByteHasOneClass : Prop :=
  ∀ (p : Config.Params) (b : Byte), Function.Injective p.ctlBits →
    (p.requestedMask = arbMask p ∨ p.requestedMask = 0xFF#8) →
    ¬ (connected p b = true ∧ requested p b = true) ∧
    (classify p b = .connected ↔ connected p b = true) ∧
    (classify p b = .requested ↔ requested p b = true) ∧
    (classify p b = .other ↔ connected p b = false ∧ requested p b = false)

/-- R30 and R31 in the flags' own terms, for every CONTROL layout with distinct positions: `connected` is LOCK_REQ, LOCK_GRANT and
BUS_CONNECT all set; under the default mask `requested` is LOCK_REQ set and the two others clear. -/
def Obligations.PredicatesReadTheArbitrationFlags : Prop :=
  ∀ (p : Config.Params) (b : Byte), Function.Injective p.ctlBits →
    (connected p b = true ↔
      ctlBit p .lockReq b = true ∧ ctlBit p .lockGrant b = true ∧ ctlBit p .busConnect b = true) ∧
    (p.requestedMask = arbMask p →
      (requested p b = true ↔
        ctlBit p .lockReq b = true ∧ ctlBit p .lockGrant b = false ∧ ctlBit p .busConnect b = false))

/-- R32 and the class table of R80 under the default masks: the class depends on bits 2:0 only, 32 bytes are connected, 32
requested, 192 other, and 0x25 is among the last. -/
def Obligations.ClassByTheThreeLowBits : Prop :=
  (∀ b : Byte, classify Config.hw b =
    if b.extractLsb' 0 3 = 0b111#3 then .connected else if b.extractLsb' 0 3 = 0b001#3 then .requested else .other) ∧
  ((List.range 256).filter fun n => classify Config.hw (BitVec.ofNat 8 n) = .connected).length = 32 ∧
  ((List.range 256).filter fun n => classify Config.hw (BitVec.ofNat 8 n) = .requested).length = 32 ∧
  ((List.range 256).filter fun n => classify Config.hw (BitVec.ofNat 8 n) = .other).length = 192 ∧
  classify Config.hw (reqValue Config.hw) = .other

/-- R145: the hardware's comparison of `w`-bit counter values agrees with the comparison of the natural numbers they hold, as long
as the two lie less than 2^(w-1) apart. -/
def Obligations.CounterComparisonAgreesWithNaturals : Prop :=
  ∀ w t x : Nat, 0 < w → t < x + 2 ^ (w - 1) → x < t + 2 ^ (w - 1) →
    timeGeHw w (BitVec.ofNat w t) (BitVec.ofNat w x) = decide (x ≤ t)

/-! ## What a step is -/

/-- The step of a waiting ARBC is the meaning of the instruction the word on the command port decodes to (R141, R160, R170, R173
each begin so), and a word that decodes to nothing is refused. -/
def Obligations.WaitingStepRunsTheDecodedCommand : Prop :=
  ∀ (s : State) (w : CmdWord), s.st = .unattached ∨ s.st = .idle → s.input.cmd = some w →
    (∀ i, decode (.cmd w) = .ok i → step s = exec i s) ∧
    (∀ e, decode (.cmd w) = .error e → step s = .refused (.commandWord e))

/-- R21, R85, R105 to R107: with no command presented, the step of a busy state that issues a transaction is the meaning of that
transaction, and the word put on the transport port decodes to it. -/
def Obligations.BusyStepRunsItsTransaction : Prop :=
  ∀ (s : State) (i : Instr), s.input.cmd = none →
    ((s.st = .attWr ∨ s.st = .relWr) ∧ i = .wrRel ∨ s.st = .selRd ∧ i = .rdCtl ∨ s.st = .selWr ∧ i = .wrbReq) →
    step s = exec i s ∧ decode (encode i) = .ok i ∧
    ∃ t w, step s = .next t ∧ encode i = .txn w ∧ transactionsIn (newEvents s t) = [w]

/-- A word of the opcode table placed by `withFetchWord` is what the next step runs (log 15), and it takes a step. -/
def Obligations.PlacedWordIsRunNext : Prop :=
  ∀ (s : State) (nbits w : Nat) (i : Instr), decodeTableWord nbits w = some i →
    step (s.withFetchWord nbits w) = exec i (s.withFetchWord nbits w) ∧
    ∃ t, step (s.withFetchWord nbits w) = .next t

/-- R175: ATTACH is accepted in UNATTACHED only, SELECT 0, RELEASE 0 and DETACH in IDLE only, and no command in a busy state. In
any other state the command is refused by its meaning and by the step (R207). -/
def Obligations.CommandAcceptedOnlyInItsState : Prop :=
  ∀ (s : State) (w : CmdWord) (i : Instr), s.input.cmd = some w → decode (.cmd w) = .ok i →
    ((s.st = .unattached ∧ w = 0x01#8 ∨ s.st = .idle ∧ (w = 0x02#8 ∨ w = 0x03#8 ∨ w = 0x04#8)) →
      ∃ t, step s = .next t ∧ commandsIn (newEvents s t) = [w]) ∧
    (¬ (s.st = .unattached ∧ w = 0x01#8 ∨ s.st = .idle ∧ (w = 0x02#8 ∨ w = 0x03#8 ∨ w = 0x04#8)) →
      step s = .refused (.commandInState s.st) ∧ exec i s = .refused (.commandInState s.st))

/-- R215: ARBC waits in UNATTACHED and IDLE until a command is presented and in SEL_SLP until the sample reaches `wake_at`; nothing
passes on the ports, and every register keeps its value. That such a wait is a next state, in which only the environment moves on,
is the model's choice (DESIGN CHOICE, log 18): R10 says that ARBC takes no step. -/
def Obligations.WaitingKeepsEveryRegister : Prop :=
  ∀ s : State, s.input.cmd = none →
    (s.st = .unattached ∨ s.st = .idle ∨ s.st = .selSlp ∧ s.sample < s.wakeAt) →
    step s = .next { s with now := s.sample, env := s.env.tail, tick := s.tick + 1 }

/-! ## Meanings: result and frame of every instruction -/

/-- R170, the accept step of ATTACH in UNATTACHED: UNSUPPORTED and no transaction when XPORT_CAPS = 0, else ATT_WR. -/
def Obligations.AttachAccept : Prop :=
  ∀ s : State, s.st = .unattached →
    (s.input.caps = false →
      exec .attach s = .next { s with
        trace := s.trace ++ [.cmd 0x01#8, .resp 0x0003#16],
        now := s.sample, env := s.env.tail, tick := s.tick + 1 }) ∧
    (s.input.caps = true →
      exec .attach s = .next { s with
        st := .attWr, trace := s.trace ++ [.cmd 0x01#8],
        now := s.sample, env := s.env.tail, tick := s.tick + 1 })

/-- R171, the ATT_WR step: WR_REL, then `attach_ok` and OK on success; on an error the parameter ATTACH_ON_RELEASE_ERROR decides,
for either of its values. -/
def Obligations.AttachResetWritesRelease : Prop :=
  (∀ s : State, s.st = .attWr → writeResult s.input.ans = .ok () →
    exec .wrRel s = .next { s with
      st := .idle, attachOk := true, trace := s.trace ++ [.txn 0x1010000#26 s.input.ans, .resp 0x0000#16],
      now := s.sample, env := s.env.tail, tick := s.tick + 1 }) ∧
  (∀ (s : State) (e : ErrPayload), s.st = .attWr → writeResult s.input.ans = .error e →
    exec .wrRel s = .next { s with
      st := (match Config.attachOnReleaseError with | .stayUnattached => .unattached | .attachAnyway => .idle),
      attachOk := (match Config.attachOnReleaseError with | .stayUnattached => s.attachOk | .attachAnyway => true),
      trace := s.trace ++ [.txn 0x1010000#26 s.input.ans,
        .resp (match Config.attachOnReleaseError with
          | .stayUnattached => respWord .transport e | .attachAnyway => respWord .ok 0x00#8)],
      now := s.sample, env := s.env.tail, tick := s.tick + 1 })

/-- R173: DETACH, CMD word 0x04, in IDLE clears `attach_ok`, answers OK, goes to UNATTACHED and issues no transaction; in any
other state it is refused. -/
def Obligations.DetachStep : Prop :=
  encode .detach = .cmd 0x04#8 ∧
  ∀ s : State,
    (s.st = .idle →
      exec .detach s = .next { s with
        st := .unattached, attachOk := false, trace := s.trace ++ [.cmd 0x04#8, .resp 0x0000#16],
        now := s.sample, env := s.env.tail, tick := s.tick + 1 }) ∧
    (s.st ≠ .idle → exec .detach s = .refused (.commandInState s.st))

/-- R141: SELECT 0 in IDLE resets `retry_delay`, sets `deadline` to Now + T_TIMEOUT_US, goes to SEL_RD and issues no transaction;
no step of a busy ARBC moves the deadline after that, and the delay set here is overwritten before a sleep reads it. -/
def Obligations.SelectAcceptOpensTheWindow : Prop :=
  (∀ s : State, s.st = .idle →
    exec (.select 0#4) s = .next { s with
      st := .selRd, retryDelay := Config.hw.shortUs, deadline := s.sample + Config.hw.timeoutUs,
      trace := s.trace ++ [.cmd 0x02#8, .sample s.sample],
      now := s.sample, env := s.env.tail, tick := s.tick + 1 }) ∧
  (∀ s t : State, s.st.busy = true → step s = .next t → t.deadline = s.deadline) ∧
  (∀ (s t : State) (d : Nat), s.st = .selRd ∨ s.st = .selWr → step s = .next t → t.st = .selSlp →
    step { s with retryDelay := d } = .next t)

/-- R160, the accept step of RELEASE 0 in IDLE: REL_WR, and nothing else. -/
def Obligations.ReleaseAccept : Prop :=
  ∀ s : State, s.st = .idle →
    exec (.release 0#4) s = .next { s with
      st := .relWr, trace := s.trace ++ [.cmd 0x03#8],
      now := s.sample, env := s.env.tail, tick := s.tick + 1 }

/-- R73: with a channel other than 0, SELECT and RELEASE are refused in every state, and no command word of any of the four
operations with such a CH decodes. -/
def Obligations.OtherChannelsAreRefused : Prop :=
  ∀ (s : State) (ch : BitVec 4), ch ≠ 0#4 →
    exec (.select ch) s = .refused (.channelOutOfRange ch) ∧ exec (.release ch) s = .refused (.channelOutOfRange ch) ∧
    decode (.cmd (cmdWord ch 0b001#3)) = .error (.channel ch) ∧ decode (.cmd (cmdWord ch 0b010#3)) = .error (.channel ch) ∧
    decode (.cmd (cmdWord ch 0b011#3)) = .error (.channel ch) ∧ decode (.cmd (cmdWord ch 0b100#3)) = .error (.channel ch)

/-- R161: the REL_WR step issues WR_REL and ends the command, with OK or with TRANSPORT(e); no other register is written. -/
def Obligations.ReleaseWriteEndsTheCommand : Prop :=
  (∀ s : State, s.st = .relWr → writeResult s.input.ans = .ok () →
    exec .wrRel s = .next { s with
      st := .idle, trace := s.trace ++ [.txn 0x1010000#26 s.input.ans, .resp 0x0000#16],
      now := s.sample, env := s.env.tail, tick := s.tick + 1 }) ∧
  (∀ (s : State) (e : ErrPayload), s.st = .relWr → writeResult s.input.ans = .error e →
    exec .wrRel s = .next { s with
      st := .idle, trace := s.trace ++ [.txn 0x1010000#26 s.input.ans, .resp (respWord .transport e)],
      now := s.sample, env := s.env.tail, tick := s.tick + 1 })

/-- R121 with R142 and R143, the SEL_RD step, in its four cases. -/
def Obligations.ArbitrateReadPhase : Prop :=
  (∀ (s : State) (e : ErrPayload), s.st = .selRd → readResult s.input.ans = .error e →
    exec .rdCtl s = .next { s with
      st := .idle, trace := s.trace ++ [.txn 0x0010000#26 s.input.ans, .resp (respWord .transport e)],
      now := s.sample, env := s.env.tail, tick := s.tick + 1 }) ∧
  (∀ (s : State) (b : Byte), s.st = .selRd → readResult s.input.ans = .ok b →
    (connected Config.hw b = true →
      exec .rdCtl s = .next { s with
        st := .idle, ctlObs := b, trace := s.trace ++ [.txn 0x0010000#26 s.input.ans, .resp 0x0000#16],
        now := s.sample, env := s.env.tail, tick := s.tick + 1 }) ∧
    (requested Config.hw b = true →
      exec .rdCtl s = .next { s with
        st := .selSlp, ctlObs := b, retryDelay := Config.hw.longUs, wakeAt := s.sample + Config.hw.longUs,
        trace := s.trace ++ [.txn 0x0010000#26 s.input.ans, .sample s.sample],
        now := s.sample, env := s.env.tail, tick := s.tick + 1 }) ∧
    (connected Config.hw b = false → requested Config.hw b = false →
      exec .rdCtl s = .next { s with
        st := .selWr, ctlObs := b, trace := s.trace ++ [.txn 0x0010000#26 s.input.ans],
        now := s.sample, env := s.env.tail, tick := s.tick + 1 }))

/-- R122 with R143, the SEL_WR step: the block write 0x81, 0x25, 0x14, then the SHORT sleep, or TRANSPORT(e) with `retry_delay`
unwritten. -/
def Obligations.ArbitrateRequestPhase : Prop :=
  (∀ s : State, s.st = .selWr → writeResult s.input.ans = .ok () →
    exec .wrbReq s = .next { s with
      st := .selSlp, retryDelay := Config.hw.shortUs, wakeAt := s.sample + Config.hw.shortUs,
      trace := s.trace ++ [.txn 0x2812514#26 s.input.ans, .sample s.sample],
      now := s.sample, env := s.env.tail, tick := s.tick + 1 }) ∧
  (∀ (s : State) (e : ErrPayload), s.st = .selWr → writeResult s.input.ans = .error e →
    exec .wrbReq s = .next { s with
      st := .idle, trace := s.trace ++ [.txn 0x2812514#26 s.input.ans, .resp (respWord .transport e)],
      now := s.sample, env := s.env.tail, tick := s.tick + 1 })

/-- R142: a connected read ends SELECT with OK in the same step; `retry_delay`, `deadline` and `wake_at` keep their values, and no
transaction follows until the next command. The steps after the first are waits in IDLE, which are next states by the model's
choice (DESIGN CHOICE, log 18). -/
def Obligations.AcquiredExitStopsTheWrites : Prop :=
  ∀ (n : Nat) (s : State) (b : Byte), s.st = .selRd → readResult s.input.ans = .ok b → connected Config.hw b = true →
    (∀ inp ∈ s.env, inp.cmd = none) → 0 < n → n ≤ s.env.length →
    ∃ t, runsTo n s t ∧ t.st = .idle ∧ t.retryDelay = s.retryDelay ∧ t.deadline = s.deadline ∧ t.wakeAt = s.wakeAt ∧
      newEvents s t = [.txn 0x0010000#26 s.input.ans, .resp 0x0000#16]

/-- R144: the sleep ends at a sample that reaches `wake_at`; that same sample is compared with the deadline, and equality times
out. No transaction is issued. That holding below `wake_at` is a next state, in which only the environment moves on, is the model's
choice (DESIGN CHOICE, log 18): R10 says 'no step of ARBC' there. -/
def Obligations.SleepEndsAtItsSample : Prop :=
  ∀ s : State, s.st = .selSlp → s.input.cmd = none →
    (s.sample < s.wakeAt →
      step s = .next { s with now := s.sample, env := s.env.tail, tick := s.tick + 1 }) ∧
    (s.wakeAt ≤ s.sample → s.deadline ≤ s.sample →
      step s = .next { s with
        st := .idle, trace := s.trace ++ [.sample s.sample, .resp 0x0001#16],
        now := s.sample, env := s.env.tail, tick := s.tick + 1 }) ∧
    (s.wakeAt ≤ s.sample → s.sample < s.deadline →
      step s = .next { s with
        st := .selRd, trace := s.trace ++ [.sample s.sample],
        now := s.sample, env := s.env.tail, tick := s.tick + 1 })

/-- R22, R105 to R107: no transaction is issued in a state that the rules do not name for it. -/
def Obligations.TransactionsOnlyInTheirStates : Prop :=
  ∀ s : State,
    (s.st ≠ .selRd → exec .rdCtl s = .refused (.notIssuedIn s.st)) ∧
    (s.st ≠ .selWr → exec .wrbReq s = .refused (.notIssuedIn s.st)) ∧
    (s.st ≠ .relWr → s.st ≠ .attWr → exec .wrRel s = .refused (.notIssuedIn s.st))

/-- R171 for both values of ATTACH_ON_RELEASE_ERROR and any parameters with CONTROL at 0x01: what a failed release write of
ATTACH does. -/
def Obligations.FailedAttachResetUnderEachPolicy : Prop :=
  ∀ (p : Config.Params) (s : State) (e : ErrPayload), s.st = .attWr → writeResult s.input.ans = .error e →
    (p.attachOnReleaseError = .stayUnattached →
      attachReset p s = { s with
        st := .unattached, trace := s.trace ++ [.txn (txnWrRel p).word s.input.ans, .resp (respWord .transport e)] }) ∧
    (p.attachOnReleaseError = .attachAnyway →
      attachReset p s = { s with
        st := .idle, attachOk := true, trace := s.trace ++ [.txn (txnWrRel p).word s.input.ans, .resp 0x0000#16] })

/-! ## Frames over all instructions -/

/-- R20, "written by": each register changes only in the steps its row names. -/
def Obligations.EachRegisterHasItsWriters : Prop :=
  ∀ s t : State, step s = .next t →
    (t.retryDelay ≠ s.retryDelay → s.st = .idle ∧ fetch s = .run (.select 0#4) ∨ s.st = .selRd ∨ s.st = .selWr) ∧
    (t.deadline ≠ s.deadline → s.st = .idle ∧ fetch s = .run (.select 0#4)) ∧
    (t.wakeAt ≠ s.wakeAt → (s.st = .selRd ∨ s.st = .selWr) ∧ t.st = .selSlp) ∧
    (t.ctlObs ≠ s.ctlObs → s.st = .selRd ∧ readResult s.input.ans = .ok t.ctlObs) ∧
    (t.attachOk ≠ s.attachOk → s.st = .attWr ∧ t.st = .idle ∨ s.st = .idle ∧ fetch s = .run .detach)

/-- The frame of `exec`, per instruction: the registers each one leaves unchanged in every next state it answers, and that the
ports' history only grows. -/
def Obligations.InstructionFrames : Prop :=
  ∀ (i : Instr) (s t : State), exec i s = .next t →
    s.trace <+: t.trace ∧ t.now = s.sample ∧ t.env = s.env.tail ∧ t.tick = s.tick + 1 ∧
    match i with
    | .attach => t.retryDelay = s.retryDelay ∧ t.deadline = s.deadline ∧ t.wakeAt = s.wakeAt ∧ t.ctlObs = s.ctlObs ∧
        t.attachOk = s.attachOk
    | .select _ => t.wakeAt = s.wakeAt ∧ t.ctlObs = s.ctlObs ∧ t.attachOk = s.attachOk
    | .release _ => t.retryDelay = s.retryDelay ∧ t.deadline = s.deadline ∧ t.wakeAt = s.wakeAt ∧ t.ctlObs = s.ctlObs ∧
        t.attachOk = s.attachOk
    | .detach => t.retryDelay = s.retryDelay ∧ t.deadline = s.deadline ∧ t.wakeAt = s.wakeAt ∧ t.ctlObs = s.ctlObs
    | .rdCtl => t.deadline = s.deadline ∧ t.attachOk = s.attachOk
    | .wrbReq => t.deadline = s.deadline ∧ t.ctlObs = s.ctlObs ∧ t.attachOk = s.attachOk
    | .wrRel => t.retryDelay = s.retryDelay ∧ t.deadline = s.deadline ∧ t.wakeAt = s.wakeAt ∧ t.ctlObs = s.ctlObs

/-- R22, the whole transition table: from each state, under each condition, where a step leads, with the responses it emits; and a
step issues at most one transaction. The three rows with the same state and no response are not in R22's table: that the waits of
R10 and R215 are next states is the model's choice (DESIGN CHOICE, log 18). -/
def Obligations.SequencingTable : Prop :=
  ∀ s t : State, step s = .next t →
    (transactionsIn (newEvents s t)).length ≤ 1 ∧
    match s.st with
    | .unattached =>
      (match s.input.cmd with
       | none => t.st = .unattached ∧ responsesIn (newEvents s t) = []
       | some w => w = 0x01#8 ∧
          if s.input.caps then t.st = .attWr ∧ responsesIn (newEvents s t) = []
          else t.st = .unattached ∧ responsesIn (newEvents s t) = [respWord .unsupported 0x00#8])
    | .attWr =>
      (match writeResult s.input.ans with
       | .ok _ => t.st = .idle ∧ responsesIn (newEvents s t) = [respWord .ok 0x00#8]
       | .error e =>
         match Config.attachOnReleaseError with
         | .stayUnattached => t.st = .unattached ∧ responsesIn (newEvents s t) = [respWord .transport e]
         | .attachAnyway => t.st = .idle ∧ responsesIn (newEvents s t) = [respWord .ok 0x00#8])
    | .idle =>
      (match s.input.cmd with
       | none => t.st = .idle ∧ responsesIn (newEvents s t) = []
       | some w =>
          w = 0x02#8 ∧ t.st = .selRd ∧ responsesIn (newEvents s t) = [] ∨
          w = 0x03#8 ∧ t.st = .relWr ∧ responsesIn (newEvents s t) = [] ∨
          w = 0x04#8 ∧ t.st = .unattached ∧ responsesIn (newEvents s t) = [respWord .ok 0x00#8])
    | .selRd =>
      (match readResult s.input.ans with
       | .error e => t.st = .idle ∧ responsesIn (newEvents s t) = [respWord .transport e]
       | .ok b =>
         if connected Config.hw b then t.st = .idle ∧ responsesIn (newEvents s t) = [respWord .ok 0x00#8]
         else if requested Config.hw b then t.st = .selSlp ∧ responsesIn (newEvents s t) = []
         else t.st = .selWr ∧ responsesIn (newEvents s t) = [])
    | .selWr =>
      (match writeResult s.input.ans with
       | .ok _ => t.st = .selSlp ∧ responsesIn (newEvents s t) = []
       | .error e => t.st = .idle ∧ responsesIn (newEvents s t) = [respWord .transport e])
    | .selSlp =>
      if s.wakeAt ≤ s.sample then
        if s.deadline ≤ s.sample then t.st = .idle ∧ responsesIn (newEvents s t) = [respWord .timeout 0x00#8]
        else t.st = .selRd ∧ responsesIn (newEvents s t) = []
      else t.st = .selSlp ∧ responsesIn (newEvents s t) = []
    | .relWr =>
      (match writeResult s.input.ans with
       | .ok _ => t.st = .idle ∧ responsesIn (newEvents s t) = [respWord .ok 0x00#8]
       | .error e => t.st = .idle ∧ responsesIn (newEvents s t) = [respWord .transport e])

/-! ## Errors -/

/-- R204, the shared operation: the response of R200 goes out, `st` becomes IDLE, or UNATTACHED for Unsupported and for the
release write of ATTACH, and nothing else changes. -/
def Obligations.ErrorEndsTheCommand : Prop :=
  ∀ (s : State) (x : ArbcError),
    s.raise x = { s with
      st := (if x = .unsupported ∨ (∃ e, x = .transport e) ∧ s.st = .attWr then .unattached else .idle)
      trace := s.trace ++ [.resp (match x with
        | .transport e => respWord .transport e | .timeout => 0x0001#16 | .unsupported => 0x0003#16)] }

/-- R201: in every state that issues a transaction, an answer Err(e) ends the command in the same step with TRANSPORT(e), the same
`e`, in any poll iteration; in ATT_WR this holds under stay_unattached. -/
def Obligations.TransportErrorIsPassedOnVerbatim : Prop :=
  ∀ s t : State, step s = .next t → ansOk s.input.ans = false →
    (s.st = .selRd ∨ s.st = .selWr ∨ s.st = .relWr ∨ s.st = .attWr) →
    (s.st ≠ .attWr ∨ t.st = .unattached) →
    ∃ w, newEvents s t = [.txn w s.input.ans, .resp (respWord .transport (s.input.ans.extractLsb' 0 8))] ∧
      (s.st ≠ .attWr → t.st = .idle) ∧ t.retryDelay = s.retryDelay ∧ t.deadline = s.deadline ∧ t.wakeAt = s.wakeAt ∧
      t.ctlObs = s.ctlObs ∧ t.attachOk = s.attachOk

/-- R176, R202: UNSUPPORTED comes only from the accept step of ATTACH without the capability, TIMEOUT only from the SEL_SLP step
at a sample that reached the deadline; after TIMEOUT ARBC is in IDLE and accepts a new SELECT. -/
def Obligations.TimeoutAndUnsupportedHaveOneSource : Prop :=
  ∀ s t : State, step s = .next t →
    (respWord .unsupported 0x00#8 ∈ responsesIn (newEvents s t) →
      s.st = .unattached ∧ fetch s = .run .attach ∧ s.input.caps = false ∧ t.st = .unattached ∧
      transactionsIn (newEvents s t) = []) ∧
    (respWord .timeout 0x00#8 ∈ responsesIn (newEvents s t) →
      s.st = .selSlp ∧ s.wakeAt ≤ s.sample ∧ s.deadline ≤ s.sample ∧ t.st = .idle ∧
      transactionsIn (newEvents s t) = [] ∧ ∃ u, exec (.select 0#4) t = .next u)

/-- R206: the error of a read is tested before anything else and the deadline only after a sleep, so the step of SEL_RD, SEL_WR or
REL_WR does the same whatever the deadline is. -/
def Obligations.DeadlineIsTestedOnlyAfterASleep : Prop :=
  ∀ (s t : State) (d : Nat), s.st ≠ .selSlp → step s = .next t →
    ∃ t', step { s with deadline := d } = .next t' ∧ { t' with deadline := t.deadline } = t

/-! ## What no step reads -/

/-- R26, R66: `ctl_obs` is read by no later step. -/
def Obligations.LastControlByteIsNeverRead : Prop :=
  ∀ (s t : State) (b : Byte), step s = .next t →
    ∃ t', step { s with ctlObs := b } = .next t' ∧ { t' with ctlObs := t.ctlObs } = t

/-- R23: a value that `retry_delay` held before a step reaches no other register and no port, and every path to SEL_SLP overwrites
it. -/
def Obligations.OldRetryDelayIsNeverRead : Prop :=
  ∀ (s t : State) (d : Nat), step s = .next t →
    ∃ t', step { s with retryDelay := d } = .next t' ∧ { t' with retryDelay := t.retryDelay } = t ∧
      ((s.st = .selRd ∨ s.st = .selWr) → t.st = .selSlp → t' = t)

/-- R20: nothing but the six registers, and the inputs, decides a step. What passed on the ports before is not read (log 14). -/
def Obligations.PortHistoryIsNeverRead : Prop :=
  ∀ (s t : State) (tr : List Event), step s = .next t →
    step { s with trace := tr } = .next { t with trace := tr ++ newEvents s t }

/-! ## Reset and invariants -/

/-- R230: the registers the rule gives a value, and that only ATTACH is accepted. (The values of the others are log 4's.) -/
def Obligations.PowerOnReset : Prop :=
  State.reset.st = .unattached ∧ State.reset.attachOk = false ∧ State.reset.retryDelay = Config.hw.shortUs ∧
  State.reset.trace = [] ∧
  ∀ (w : CmdWord) (inp : Input), inp.cmd = some w →
    ((∃ t, step { State.reset with env := [inp] } = .next t) ↔ w = 0x01#8)

/-- The invariants hold after reset. -/
def Obligations.ResetMeetsTheInvariants : Prop :=
  RegisterInv State.reset ∧ OneResponsePerCommand State.reset ∧ OnlyThreeTransactions State.reset ∧
  RequestsFollowOtherReads State.reset ∧ SamplesOrdered State.reset

/-- R23 to R25 and R27: what the registers hold is kept by every step. That `attach_ok` is 0 in ATT_WR is the model's choice
(DEDUCED, log 5): R170 and R171 set it only when the release write has succeeded, against the clause of R27 that it equals
'st is not UNATTACHED' in every state. -/
def Obligations.StepKeepsRegisterInvariant : Prop :=
  ∀ s t : State, RegisterInv s → step s = .next t → RegisterInv t

/-- R40, D31: exactly one response per accepted command, in the step that ends it. -/
def Obligations.StepKeepsOneResponsePerCommand : Prop :=
  ∀ s t : State, OneResponsePerCommand s → step s = .next t → OneResponsePerCommand t

/-- R108: ARBC emits no transaction other than RD_CTL, WRB_REQ and WR_REL. -/
def Obligations.StepKeepsOnlyThreeTransactions : Prop :=
  ∀ s t : State, OnlyThreeTransactions s → step s = .next t → OnlyThreeTransactions t

/-- From R108: whatever transaction a step issues is RD_CTL, WRB_REQ or WR_REL, and its ADDR is 0x01, or 0x81 with the AUTO_INC
bit, which both name CONTROL. Where the second byte of WRB_REQ lands is not said (R57). -/
def Obligations.TransactionsAddressOnlyControl : Prop :=
  ∀ (s t : State) (w : TxnWord), step s = .next t → w ∈ transactionsIn (newEvents s t) →
    (w = 0x0010000#26 ∨ w = 0x2812514#26 ∨ w = 0x1010000#26) ∧
    (w.extractLsb' 16 8 = 0x01#8 ∨ w.extractLsb' 16 8 = 0x81#8) ∧
    chipRegAt Config.hw (w.extractLsb' 16 8) = some .control

/-- R106, R123: a request write is issued only right after a successful read of a byte that is neither connected nor requested. -/
def Obligations.StepKeepsRequestsGuarded : Prop :=
  ∀ s t : State, RequestsFollowOtherReads s → step s = .next t → RequestsFollowOtherReads t

/-- R10: a clock sample is not less than any earlier one. -/
def Obligations.StepKeepsSamplesOrdered : Prop :=
  ∀ s t : State, SamplesOrdered s → step s = .next t → SamplesOrdered t

/-! ## Whole commands -/

/-- R124, one ARBITRATE without a transport error, by the class of the byte read: one read and OK; one read, LONG and the sleep;
or one read, one block write, SHORT and the sleep. -/
def Obligations.ArbitrateOutcomeByClass : Prop :=
  ∀ (s : State) (i0 i1 : Input) (rest : List Input) (b : Byte), s.st = .selRd → s.env = i0 :: i1 :: rest →
    i0.cmd = none → i1.cmd = none → readResult i0.ans = .ok b → writeResult i1.ans = .ok () →
    (classify Config.hw b = .connected → ∃ t, runsTo 1 s t ∧ t.st = .idle ∧ t.retryDelay = s.retryDelay ∧
      transactionsIn (newEvents s t) = [0x0010000#26] ∧ responsesIn (newEvents s t) = [0x0000#16]) ∧
    (classify Config.hw b = .requested → ∃ t, runsTo 1 s t ∧ t.st = .selSlp ∧ t.retryDelay = Config.hw.longUs ∧
      transactionsIn (newEvents s t) = [0x0010000#26] ∧ responsesIn (newEvents s t) = []) ∧
    (classify Config.hw b = .other → ∃ t, runsTo 2 s t ∧ t.st = .selSlp ∧ t.retryDelay = Config.hw.shortUs ∧
      transactionsIn (newEvents s t) = [0x0010000#26, 0x2812514#26] ∧ responsesIn (newEvents s t) = [])

/-- The first scenario of §8 (W7): a read of class "other", a successful request write, a SHORT sleep, a connected read. SELECT
answers OK after exactly two poll iterations, at whatever times the samples fall before the deadline. -/
def Obligations.RequestThenGrantTakesTwoPolls : Prop :=
  ∀ (s : State) (i0 i1 i2 i3 i4 : Input) (rest : List Input) (b c : Byte), s.st = .idle →
    s.env = i0 :: i1 :: i2 :: i3 :: i4 :: rest → i0.cmd = some 0x02#8 →
    i1.cmd = none → i2.cmd = none → i3.cmd = none → i4.cmd = none →
    readResult i1.ans = .ok b → classify Config.hw b = .other → writeResult i2.ans = .ok () →
    readResult i4.ans = .ok c → classify Config.hw c = .connected →
    i1.advance + i2.advance + i3.advance < Config.hw.timeoutUs →
    runsTo 5 s { s with
      st := .idle, retryDelay := Config.hw.shortUs, deadline := s.now + i0.advance + Config.hw.timeoutUs,
      wakeAt := s.now + i0.advance + i1.advance + i2.advance + Config.hw.shortUs, ctlObs := c,
      trace := s.trace ++ [.cmd 0x02#8, .sample (s.now + i0.advance), .txn 0x0010000#26 i1.ans, .txn 0x2812514#26 i2.ans,
        .sample (s.now + i0.advance + i1.advance + i2.advance),
        .sample (s.now + i0.advance + i1.advance + i2.advance + i3.advance), .txn 0x0010000#26 i4.ans, .resp 0x0000#16],
      now := s.now + i0.advance + i1.advance + i2.advance + i3.advance + i4.advance, env := rest, tick := s.tick + 5 }

/-- R126: a SELECT while the chip reads connected is one read and OK. -/
def Obligations.SelectOnHeldBusIsOneRead : Prop :=
  ∀ (s : State) (i0 i1 : Input) (rest : List Input) (b : Byte), s.st = .idle → s.env = i0 :: i1 :: rest →
    i0.cmd = some 0x02#8 → i1.cmd = none → readResult i1.ans = .ok b → classify Config.hw b = .connected →
    ∃ t, runsTo 2 s t ∧ t.st = .idle ∧ transactionsIn (newEvents s t) = [0x0010000#26] ∧
      responsesIn (newEvents s t) = [0x0000#16]

/-- R162: RELEASE writes 0x00 without reading first, whatever the registers hold, and two in a row issue two identical writes. -/
def Obligations.TwoReleasesIssueTheSameWrite : Prop :=
  ∀ (s : State) (i0 i1 i2 i3 : Input) (rest : List Input), s.st = .idle → s.env = i0 :: i1 :: i2 :: i3 :: rest →
    i0.cmd = some 0x03#8 → i1.cmd = none → i2.cmd = some 0x03#8 → i3.cmd = none →
    ∃ t, runsTo 4 s t ∧ t.st = .idle ∧ transactionsIn (newEvents s t) = [0x1010000#26, 0x1010000#26] ∧
      (responsesIn (newEvents s t)).length = 2 ∧
      t.retryDelay = s.retryDelay ∧ t.deadline = s.deadline ∧ t.wakeAt = s.wakeAt ∧ t.ctlObs = s.ctlObs ∧
      t.attachOk = s.attachOk

/-- R170 and R171 together: ATTACH with the capability and a successful write takes two steps, one WR_REL and one OK; between them
`attach_ok` is still what it was (log 5). -/
def Obligations.AttachIssuesOneReleaseWrite : Prop :=
  ∀ (s : State) (i0 i1 : Input) (rest : List Input), s.st = .unattached → s.env = i0 :: i1 :: rest →
    i0.cmd = some 0x01#8 → i0.caps = true → i1.cmd = none → writeResult i1.ans = .ok () →
    (∃ u, runsTo 1 s u ∧ u.st = .attWr ∧ u.attachOk = s.attachOk) ∧
    ∃ t, runsTo 2 s t ∧ t.st = .idle ∧ t.attachOk = true ∧
      newEvents s t = [.cmd 0x01#8, .txn 0x1010000#26 i1.ans, .resp 0x0000#16] ∧
      t.retryDelay = s.retryDelay ∧ t.deadline = s.deadline ∧ t.wakeAt = s.wakeAt ∧ t.ctlObs = s.ctlObs

/-- R146, second bound: if every read of a SELECT is `requested`, the SELECT issues at most ceil(T_TIMEOUT_US / LONG_US) reads and
no write, and if it is back in IDLE it has answered TIMEOUT. For every number of steps of such a run, where a hold in SEL_SLP and a
wait in IDLE count as steps by the model's choice (DESIGN CHOICE, log 18). -/
def Obligations.ContendedSelectReadsAtMost250Times : Prop :=
  ∀ (n : Nat) (s : State) (i0 : Input) (rest : List Input), s.st = .idle → s.env = i0 :: rest →
    i0.cmd = some 0x02#8 →
    (∀ i ∈ rest, i.cmd = none ∧ ∃ b, readResult i.ans = .ok b ∧ classify Config.hw b = .requested) →
    0 < n → n ≤ s.env.length →
    ∃ t k, runsTo n s t ∧ k ≤ (Config.hw.timeoutUs + Config.hw.longUs - 1) / Config.hw.longUs ∧
      transactionsIn (newEvents s t) = List.replicate k 0x0010000#26 ∧
      (t.st = .idle → responsesIn (newEvents s t) = [0x0001#16] ∧ 0 < k ∧ t.retryDelay = Config.hw.longUs) ∧
      (t.st ≠ .idle → responsesIn (newEvents s t) = [])

/-- R146, first bound, for a CLOCK that advances by at least 1 µs from step to step (the premise stands for D26, log 21): whatever
the answers are, a SELECT has given exactly one response and is back in IDLE within T_TIMEOUT_US + LONG_US + 10 steps. Holds in
SEL_SLP are among the steps counted, by the model's choice (DESIGN CHOICE, log 18). -/
def Obligations.SelectAnswersWhileTheClockAdvances : Prop :=
  ∀ (s : State) (i0 : Input) (rest : List Input), s.st = .idle → s.env = i0 :: rest → i0.cmd = some 0x02#8 →
    (∀ i ∈ rest, i.cmd = none ∧ 1 ≤ i.advance) →
    Config.hw.timeoutUs + Config.hw.longUs + 10 ≤ rest.length →
    ∃ n t, n ≤ Config.hw.timeoutUs + Config.hw.longUs + 10 ∧ 0 < n ∧ runsTo n s t ∧ t.st = .idle ∧
      (responsesIn (newEvents s t)).length = 1

/-! ## Payloads of other widths -/

/-- ERR_W as the parameter it is (R7, R75, D18): at every width of the payload a response word holds it in bits 8+ERR_W-1:8 with
zeros and the code below, an answer word gives its fields back, and the payload of a failed answer is the one its TRANSPORT
response carries. Where the fields of an answer stand at a width other than 8 is the model's choice (DEDUCED, log 23). -/
def Obligations.ErrorWordsAtEveryPayloadWidth : Prop :=
  (∀ (w : Nat) (e : BitVec w) (c : RespCode),
    (respWordOf c e).extractLsb' 8 w = e ∧ (respWordOf c e).extractLsb' 2 6 = 0#6 ∧
    (respWordOf c e).extractLsb' 0 2 = c.bits) ∧
  (∀ (w : Nat) (e : BitVec w) (ok : Bool) (b : Byte),
    ansOkOf (ansWordOf ok b e) = ok ∧ ansRdataOf (ansWordOf ok b e) = b ∧ ansErrOf (ansWordOf ok b e) = e ∧
    respPayload (respWordOf .transport (ansErrOf (ansWordOf ok b e))) = e) ∧
  (∀ (a : AnsWord) (c : RespCode) (e : ErrPayload),
    ansOk a = ansOkOf a ∧ ansRdata a = ansRdataOf a ∧ ansErr a = ansErrOf a ∧ respWord c e = respWordOf c e)
end

