-- ==== Sys2Proof/Laws/Decode.lean ====
section
/-! SUPPORT. The fields of the words that `cmdWord` and `txnWord` build, and what a channel is on this hardware. -/

namespace Sys2Proof

@[simp] theorem cmdCh_cmdWord (ch : BitVec 4) (op : BitVec 3) : cmdCh (cmdWord ch op) = ch := by
  revert ch op; decide

@[simp] theorem cmdRsv_cmdWord (ch : BitVec 4) (op : BitVec 3) : cmdRsv (cmdWord ch op) = 0#1 := by
  revert ch op; decide

@[simp] theorem cmdOp_cmdWord (ch : BitVec 4) (op : BitVec 3) : cmdOp (cmdWord ch op) = op := by
  revert ch op; decide

/-- A command word is its three fields. -/
theorem cmdWord_of_fields (w : CmdWord) (h : cmdRsv w = 0#1) : cmdWord (cmdCh w) (cmdOp w) = w := by
  revert w; decide

@[simp] theorem txnKind_txnWord (k : BitVec 2) (a d0 d1 : Byte) : txnKind (txnWord k a d0 d1) = k := by
  apply BitVec.eq_of_getLsbD_eq
  intro i hi
  unfold txnKind txnWord
  simp only [BitVec.getLsbD_extractLsb', BitVec.getLsbD_append]
  have h1 : ¬ (24 + i < 8) := by omega
  have h2 : ¬ (24 + i - 8 < 8) := by omega
  have h3 : ¬ (24 + i - 8 - 8 < 8) := by omega
  have h4 : 24 + i - 8 - 8 - 8 = i := by omega
  simp [h1, h2, h3, h4, hi]

@[simp] theorem txnAddr_txnWord (k : BitVec 2) (a d0 d1 : Byte) : txnAddr (txnWord k a d0 d1) = a := by
  apply BitVec.eq_of_getLsbD_eq
  intro i hi
  unfold txnAddr txnWord
  simp only [BitVec.getLsbD_extractLsb', BitVec.getLsbD_append]
  have h1 : ¬ (16 + i < 8) := by omega
  have h2 : ¬ (16 + i - 8 < 8) := by omega
  have h3 : 16 + i - 8 - 8 = i := by omega
  simp [h1, h2, h3, hi]

@[simp] theorem txnD0_txnWord (k : BitVec 2) (a d0 d1 : Byte) : txnD0 (txnWord k a d0 d1) = d0 := by
  apply BitVec.eq_of_getLsbD_eq
  intro i hi
  unfold txnD0 txnWord
  simp only [BitVec.getLsbD_extractLsb', BitVec.getLsbD_append]
  have h1 : ¬ (8 + i < 8) := by omega
  have h2 : 8 + i - 8 = i := by omega
  simp [h1, h2, hi]

@[simp] theorem txnD1_txnWord (k : BitVec 2) (a d0 d1 : Byte) : txnD1 (txnWord k a d0 d1) = d1 := by
  apply BitVec.eq_of_getLsbD_eq
  intro i hi
  unfold txnD1 txnWord
  simp only [BitVec.getLsbD_extractLsb', BitVec.getLsbD_append]
  have h1 : 0 + i = i := by omega
  simp [h1, hi]

/-- On this hardware the one channel is 0 (R7, R73). -/
theorem channelOk_hw (ch : BitVec 4) : channelOk Config.hw ch = true ↔ ch = 0#4 := by
  revert ch; decide

end Sys2Proof
end

