-- ==== Sys2Proof/Laws/Operands.lean ====
section
/-! SUPPORT. The fields of the answer and response words, at any width of the payload, and the words of this hardware. -/

namespace Sys2Proof.Machine

variable {errW : Nat} (ok : Bool) (b : Byte) (e : BitVec errW) (c : RespCode)

/-! ## The fields of the words that `ansWordOf` and `respWordOf` build -/

@[simp] theorem ansErrOf_ansWordOf : ansErrOf (ansWordOf ok b e) = e := by
  simp [ansErrOf, ansWordOf, BitVec.extractLsb'_append_eq_right]

@[simp] theorem ansRdataOf_ansWordOf : ansRdataOf (ansWordOf ok b e) = b := by
  apply BitVec.eq_of_getLsbD_eq
  intro i hi
  simp only [ansRdataOf, ansWordOf, BitVec.getLsbD_extractLsb', BitVec.getLsbD_append]
  have h : ¬ errW + i < errW := by omega
  simp [h, hi]

@[simp] theorem ansOkOf_ansWordOf : ansOkOf (ansWordOf ok b e) = ok := by
  simp only [ansOkOf, ansWordOf, BitVec.getLsbD_append]
  have h : ¬ 8 + errW < errW := by omega
  simp [h]

@[simp] theorem respCodeBits_respWordOf : respCodeBits (respWordOf c e) = c.bits := by
  simp [respCodeBits, respWordOf, BitVec.extractLsb'_append_eq_right]

@[simp] theorem respPayload_respWordOf : respPayload (respWordOf c e) = e := by
  apply BitVec.eq_of_getLsbD_eq
  intro i hi
  simp only [respPayload, respWordOf, BitVec.getLsbD_extractLsb', BitVec.getLsbD_append]
  have h1 : ¬ 8 + i < 2 := by omega
  have h2 : ¬ 8 + i - 2 < 6 := by omega
  have h3 : 8 + i - 2 - 6 = i := by omega
  simp [h1, h2, h3, hi]

/-- Bits 7:2 of a response word are zero (R75). -/
theorem respWordOf_middle : (respWordOf c e).extractLsb' 2 6 = 0#6 := by
  apply BitVec.eq_of_getLsbD_eq
  intro i hi
  simp only [respWordOf, BitVec.getLsbD_extractLsb', BitVec.getLsbD_append]
  have h1 : ¬ 2 + i < 2 := by omega
  simp [h1, Nat.not_le.mpr hi]

/-! ## At this hardware's width -/

/-- An answer's fields in the bits that R78 gives them. -/
theorem ansOk_eq_bit (a : AnsWord) : ansOk a = a.getLsbD 16 := rfl

theorem ansRdata_eq_bits (a : AnsWord) : ansRdata a = a.extractLsb' 8 8 := rfl

theorem ansErr_eq_bits (a : AnsWord) : ansErr a = a.extractLsb' 0 8 := rfl

/-- The three response words whose payload is 0. -/
@[simp] theorem respWord_ok : respWord .ok 0x00#8 = 0x0000#16 := rfl

@[simp] theorem respWord_timeout : respWord .timeout 0x00#8 = 0x0001#16 := rfl

@[simp] theorem respWord_unsupported : respWord .unsupported 0x00#8 = 0x0003#16 := rfl

end Sys2Proof.Machine
end

