-- ==== Sys2Proof/Laws/State.lean ====
section
/-! SUPPORT. What each update of State does to each field, and that updates which leave the environment's fields alone leave the
inputs of the step alone. -/

namespace Sys2Proof.Machine

variable (s : State)

@[simp] theorem State.advance_st : (s.advance).st = s.st := rfl
@[simp] theorem State.advance_retryDelay : (s.advance).retryDelay = s.retryDelay := rfl
@[simp] theorem State.advance_deadline : (s.advance).deadline = s.deadline := rfl
@[simp] theorem State.advance_wakeAt : (s.advance).wakeAt = s.wakeAt := rfl
@[simp] theorem State.advance_ctlObs : (s.advance).ctlObs = s.ctlObs := rfl
@[simp] theorem State.advance_attachOk : (s.advance).attachOk = s.attachOk := rfl
@[simp] theorem State.advance_env : (s.advance).env = s.env.tail := rfl
@[simp] theorem State.advance_now : (s.advance).now = s.sample := rfl
@[simp] theorem State.advance_trace : (s.advance).trace = s.trace := rfl
@[simp] theorem State.advance_tick : (s.advance).tick = s.tick + 1 := rfl

@[simp] theorem State.emit_st (es : List Event) : (s.emit es).st = s.st := rfl
@[simp] theorem State.emit_retryDelay (es : List Event) : (s.emit es).retryDelay = s.retryDelay := rfl
@[simp] theorem State.emit_deadline (es : List Event) : (s.emit es).deadline = s.deadline := rfl
@[simp] theorem State.emit_wakeAt (es : List Event) : (s.emit es).wakeAt = s.wakeAt := rfl
@[simp] theorem State.emit_ctlObs (es : List Event) : (s.emit es).ctlObs = s.ctlObs := rfl
@[simp] theorem State.emit_attachOk (es : List Event) : (s.emit es).attachOk = s.attachOk := rfl
@[simp] theorem State.emit_env (es : List Event) : (s.emit es).env = s.env := rfl
@[simp] theorem State.emit_now (es : List Event) : (s.emit es).now = s.now := rfl
@[simp] theorem State.emit_trace (es : List Event) : (s.emit es).trace = s.trace ++ es := rfl
@[simp] theorem State.emit_tick (es : List Event) : (s.emit es).tick = s.tick := rfl
@[simp] theorem State.emit_input (es : List Event) : (s.emit es).input = s.input := rfl
@[simp] theorem State.emit_sample (es : List Event) : (s.emit es).sample = s.sample := rfl

@[simp] theorem State.transact_st (x : Txn) : (s.transact x).st = s.st := rfl
@[simp] theorem State.transact_retryDelay (x : Txn) : (s.transact x).retryDelay = s.retryDelay := rfl
@[simp] theorem State.transact_deadline (x : Txn) : (s.transact x).deadline = s.deadline := rfl
@[simp] theorem State.transact_wakeAt (x : Txn) : (s.transact x).wakeAt = s.wakeAt := rfl
@[simp] theorem State.transact_ctlObs (x : Txn) : (s.transact x).ctlObs = s.ctlObs := rfl
@[simp] theorem State.transact_attachOk (x : Txn) : (s.transact x).attachOk = s.attachOk := rfl
@[simp] theorem State.transact_env (x : Txn) : (s.transact x).env = s.env := rfl
@[simp] theorem State.transact_now (x : Txn) : (s.transact x).now = s.now := rfl
@[simp] theorem State.transact_trace (x : Txn) : (s.transact x).trace = s.trace ++ [.txn x.word s.input.ans] := rfl
@[simp] theorem State.transact_tick (x : Txn) : (s.transact x).tick = s.tick := rfl
@[simp] theorem State.transact_input (x : Txn) : (s.transact x).input = s.input := rfl
@[simp] theorem State.transact_sample (x : Txn) : (s.transact x).sample = s.sample := rfl

@[simp] theorem State.respond_st (c : RespCode) (e : ErrPayload) : (s.respond c e).st = s.st := rfl
@[simp] theorem State.respond_retryDelay (c : RespCode) (e : ErrPayload) : (s.respond c e).retryDelay = s.retryDelay := rfl
@[simp] theorem State.respond_deadline (c : RespCode) (e : ErrPayload) : (s.respond c e).deadline = s.deadline := rfl
@[simp] theorem State.respond_wakeAt (c : RespCode) (e : ErrPayload) : (s.respond c e).wakeAt = s.wakeAt := rfl
@[simp] theorem State.respond_ctlObs (c : RespCode) (e : ErrPayload) : (s.respond c e).ctlObs = s.ctlObs := rfl
@[simp] theorem State.respond_attachOk (c : RespCode) (e : ErrPayload) : (s.respond c e).attachOk = s.attachOk := rfl
@[simp] theorem State.respond_env (c : RespCode) (e : ErrPayload) : (s.respond c e).env = s.env := rfl
@[simp] theorem State.respond_now (c : RespCode) (e : ErrPayload) : (s.respond c e).now = s.now := rfl
@[simp] theorem State.respond_trace (c : RespCode) (e : ErrPayload) : (s.respond c e).trace = s.trace ++ [.resp (respWord c e)] := rfl
@[simp] theorem State.respond_tick (c : RespCode) (e : ErrPayload) : (s.respond c e).tick = s.tick := rfl
@[simp] theorem State.respond_input (c : RespCode) (e : ErrPayload) : (s.respond c e).input = s.input := rfl
@[simp] theorem State.respond_sample (c : RespCode) (e : ErrPayload) : (s.respond c e).sample = s.sample := rfl

@[simp] theorem State.succeed_st (target : SeqState) : (s.succeed target).st = target := rfl
@[simp] theorem State.succeed_retryDelay (target : SeqState) : (s.succeed target).retryDelay = s.retryDelay := rfl
@[simp] theorem State.succeed_deadline (target : SeqState) : (s.succeed target).deadline = s.deadline := rfl
@[simp] theorem State.succeed_wakeAt (target : SeqState) : (s.succeed target).wakeAt = s.wakeAt := rfl
@[simp] theorem State.succeed_ctlObs (target : SeqState) : (s.succeed target).ctlObs = s.ctlObs := rfl
@[simp] theorem State.succeed_attachOk (target : SeqState) : (s.succeed target).attachOk = s.attachOk := rfl
@[simp] theorem State.succeed_env (target : SeqState) : (s.succeed target).env = s.env := rfl
@[simp] theorem State.succeed_now (target : SeqState) : (s.succeed target).now = s.now := rfl
@[simp] theorem State.succeed_trace (target : SeqState) : (s.succeed target).trace = s.trace ++ [.resp (respWord .ok 0x00#8)] := rfl
@[simp] theorem State.succeed_tick (target : SeqState) : (s.succeed target).tick = s.tick := rfl
@[simp] theorem State.succeed_input (target : SeqState) : (s.succeed target).input = s.input := rfl
@[simp] theorem State.succeed_sample (target : SeqState) : (s.succeed target).sample = s.sample := rfl

@[simp] theorem State.raise_st (x : ArbcError) : (s.raise x).st = raiseTarget x s.st := rfl
@[simp] theorem State.raise_retryDelay (x : ArbcError) : (s.raise x).retryDelay = s.retryDelay := rfl
@[simp] theorem State.raise_deadline (x : ArbcError) : (s.raise x).deadline = s.deadline := rfl
@[simp] theorem State.raise_wakeAt (x : ArbcError) : (s.raise x).wakeAt = s.wakeAt := rfl
@[simp] theorem State.raise_ctlObs (x : ArbcError) : (s.raise x).ctlObs = s.ctlObs := rfl
@[simp] theorem State.raise_attachOk (x : ArbcError) : (s.raise x).attachOk = s.attachOk := rfl
@[simp] theorem State.raise_env (x : ArbcError) : (s.raise x).env = s.env := rfl
@[simp] theorem State.raise_now (x : ArbcError) : (s.raise x).now = s.now := rfl
@[simp] theorem State.raise_trace (x : ArbcError) : (s.raise x).trace = s.trace ++ [.resp x.word] := rfl
@[simp] theorem State.raise_tick (x : ArbcError) : (s.raise x).tick = s.tick := rfl
@[simp] theorem State.raise_input (x : ArbcError) : (s.raise x).input = s.input := rfl
@[simp] theorem State.raise_sample (x : ArbcError) : (s.raise x).sample = s.sample := rfl

@[simp] theorem State.sleepEntry_st : (s.sleepEntry).st = .selSlp := rfl
@[simp] theorem State.sleepEntry_retryDelay : (s.sleepEntry).retryDelay = s.retryDelay := rfl
@[simp] theorem State.sleepEntry_deadline : (s.sleepEntry).deadline = s.deadline := rfl
@[simp] theorem State.sleepEntry_wakeAt : (s.sleepEntry).wakeAt = s.sample + s.retryDelay := rfl
@[simp] theorem State.sleepEntry_ctlObs : (s.sleepEntry).ctlObs = s.ctlObs := rfl
@[simp] theorem State.sleepEntry_attachOk : (s.sleepEntry).attachOk = s.attachOk := rfl
@[simp] theorem State.sleepEntry_env : (s.sleepEntry).env = s.env := rfl
@[simp] theorem State.sleepEntry_now : (s.sleepEntry).now = s.now := rfl
@[simp] theorem State.sleepEntry_trace : (s.sleepEntry).trace = s.trace ++ [.sample s.sample] := rfl
@[simp] theorem State.sleepEntry_tick : (s.sleepEntry).tick = s.tick := rfl
@[simp] theorem State.sleepEntry_input : (s.sleepEntry).input = s.input := rfl
@[simp] theorem State.sleepEntry_sample : (s.sleepEntry).sample = s.sample := rfl

/-! The word of an accepted command. -/

@[simp] theorem State.acceptWord_attach : s.acceptWord .attach = s.emit [.cmd 0x01#8] := rfl

@[simp] theorem State.acceptWord_detach : s.acceptWord .detach = s.emit [.cmd 0x04#8] := rfl

@[simp] theorem State.acceptWord_select (ch : BitVec 4) :
    s.acceptWord (.select ch) = s.emit [.cmd (cmdWord ch 0b010#3)] := rfl

@[simp] theorem State.acceptWord_release (ch : BitVec 4) :
    s.acceptWord (.release ch) = s.emit [.cmd (cmdWord ch 0b011#3)] := rfl

/-! The inputs of a step are those of the record at the head of `env`, or free. -/

theorem State.input_of_env (inp : Input) (rest : List Input) (h : s.env = inp :: rest) : s.input = inp := by
  simp [State.input, h]

theorem State.input_free (h : s.env = []) :
    s.input = { cmd := Config.freeCmd s.tick, ans := Config.freeAns s.tick,
                advance := Config.freeAdvance s.tick, caps := Config.freeCaps s.tick } := by
  simp [State.input, h]

/-- The inputs of a step depend on `env` and `tick` alone: no register, port history or time decides them. -/
theorem State.input_congr {s t : State} (henv : t.env = s.env) (htick : t.tick = s.tick) : t.input = s.input := by
  simp [State.input, henv, htick]

/-- A sample depends on `env`, `tick` and `now` alone. -/
theorem State.sample_congr {s t : State} (henv : t.env = s.env) (htick : t.tick = s.tick) (hnow : t.now = s.now) :
    t.sample = s.sample := by
  simp [State.sample, State.input_congr henv htick, hnow]

/-- A sample is never less than an earlier one (R10). -/
theorem State.now_le_sample : s.now ≤ s.sample := Nat.le_add_right _ _

end Sys2Proof.Machine
end

