-- ==== Sys2Proof/Laws/Ops.lean ====
section
/-! SUPPORT. One lemma for each shared operation and each fetch, saying everything it can do. -/

namespace Sys2Proof.Machine

/-! ## Transactions -/

/-- A read yields what the answer holds, and only its request and answer pass on the ports. -/
theorem memRead_eq (a : Byte) (s : State) :
    memRead a s = (readResult s.input.ans, s.emit [.txn (Txn.readByte a).word s.input.ans]) := rfl

theorem memWrite1_eq (a v : Byte) (s : State) :
    memWrite1 a v s = (writeResult s.input.ans, s.emit [.txn (Txn.writeByte a v).word s.input.ans]) := rfl

theorem memWrite2_eq (a v1 v2 : Byte) (s : State) :
    memWrite2 a v1 v2 s = (writeResult s.input.ans, s.emit [.txn (Txn.writeBlock a v1 v2).word s.input.ans]) := rfl

/-- An answer is a success with a byte or a failure with a payload, for a read and for a write alike. -/
theorem answer_cases (a : AnsWord) :
    (ansOk a = true ∧ readResult a = .ok (ansRdata a) ∧ writeResult a = .ok ()) ∨
    (ansOk a = false ∧ readResult a = .error (ansErr a) ∧ writeResult a = .error (ansErr a)) := by
  cases h : ansOk a <;> simp [readResult, writeResult, h]

/-! ## The transaction words of this hardware -/

@[simp] theorem txnRdCtl_word_hw : (txnRdCtl Config.hw).word = 0x0010000#26 := rfl

@[simp] theorem txnWrbReq_word_hw : (txnWrbReq Config.hw).word = 0x2812514#26 := rfl

@[simp] theorem txnWrRel_word_hw : (txnWrRel Config.hw).word = 0x1010000#26 := rfl

/-! ## The steps of a SELECT, a RELEASE and an ATTACH, by the answer -/

/-- After a read of `b` exactly one of three things happens, by the class of `b`. -/
theorem arbitrateOn_cases (p : Config.Params) (b : Byte) (s : State) :
    (classify p b = .connected ∧ arbitrateOn p b s = s.succeed .idle) ∨
    (classify p b = .requested ∧ arbitrateOn p b s = { s with retryDelay := p.longUs }.sleepEntry) ∨
    (classify p b = .other ∧ arbitrateOn p b s = { s with st := .selWr }) := by
  unfold arbitrateOn
  cases h : classify p b <;> simp

theorem arbitrateRead_ok (p : Config.Params) (b : Byte) (s : State) (h : readResult s.input.ans = .ok b) :
    arbitrateRead p s = arbitrateOn p b { s.emit [.txn (txnRdCtl p).word s.input.ans] with ctlObs := b } := by
  simp [arbitrateRead, memRead_eq, h, txnRdCtl]

theorem arbitrateRead_error (p : Config.Params) (e : ErrPayload) (s : State) (h : readResult s.input.ans = .error e) :
    arbitrateRead p s = (s.emit [.txn (txnRdCtl p).word s.input.ans]).raise (.transport e) := by
  simp [arbitrateRead, memRead_eq, h, txnRdCtl]

theorem arbitrateRequest_ok (p : Config.Params) (s : State) (h : writeResult s.input.ans = .ok ()) :
    arbitrateRequest p s =
      { s.emit [.txn (txnWrbReq p).word s.input.ans] with retryDelay := p.shortUs }.sleepEntry := by
  simp [arbitrateRequest, memWrite2_eq, h, txnWrbReq]

theorem arbitrateRequest_error (p : Config.Params) (e : ErrPayload) (s : State) (h : writeResult s.input.ans = .error e) :
    arbitrateRequest p s = (s.emit [.txn (txnWrbReq p).word s.input.ans]).raise (.transport e) := by
  simp [arbitrateRequest, memWrite2_eq, h, txnWrbReq]

theorem releaseWrite_ok (p : Config.Params) (s : State) (h : writeResult s.input.ans = .ok ()) :
    releaseWrite p s = (s.emit [.txn (txnWrRel p).word s.input.ans]).succeed .idle := by
  simp [releaseWrite, memWrite1_eq, h, txnWrRel]

theorem releaseWrite_error (p : Config.Params) (e : ErrPayload) (s : State) (h : writeResult s.input.ans = .error e) :
    releaseWrite p s = (s.emit [.txn (txnWrRel p).word s.input.ans]).raise (.transport e) := by
  simp [releaseWrite, memWrite1_eq, h, txnWrRel]

theorem attachReset_ok (p : Config.Params) (s : State) (h : writeResult s.input.ans = .ok ()) :
    attachReset p s = { s.emit [.txn (txnWrRel p).word s.input.ans] with attachOk := true }.succeed .idle := by
  simp [attachReset, memWrite1_eq, h, txnWrRel]

/-- A failed attach-time write does one of two things, by the parameter. -/
theorem attachReset_error_cases (p : Config.Params) (e : ErrPayload) (s : State) (h : writeResult s.input.ans = .error e) :
    (p.attachOnReleaseError = .stayUnattached ∧
      attachReset p s = (s.emit [.txn (txnWrRel p).word s.input.ans]).raise (.transport e)) ∨
    (p.attachOnReleaseError = .attachAnyway ∧
      attachReset p s = { s.emit [.txn (txnWrRel p).word s.input.ans] with attachOk := true }.succeed .idle) := by
  cases hp : p.attachOnReleaseError <;> simp [attachReset, memWrite1_eq, h, txnWrRel, hp]

/-- The SEL_SLP step holds, times out, or starts the next poll iteration. -/
theorem sleepStep_cases (s : State) :
    (s.sample < s.wakeAt ∧ sleepStep s = s.advance) ∨
    (s.wakeAt ≤ s.sample ∧ s.deadline ≤ s.sample ∧
      sleepStep s = ((s.emit [.sample s.sample]).raise .timeout).advance) ∨
    (s.wakeAt ≤ s.sample ∧ s.sample < s.deadline ∧
      sleepStep s = { s.emit [.sample s.sample] with st := .selRd }.advance) := by
  unfold sleepStep
  by_cases hw : s.wakeAt ≤ s.sample
  · by_cases hd : s.deadline ≤ s.sample
    · exact .inr (.inl ⟨hw, hd, by simp only [if_pos hw, if_pos hd]⟩)
    · exact .inr (.inr ⟨hw, Nat.lt_of_not_le hd, by simp only [if_pos hw, if_neg hd]⟩)
  · exact .inl ⟨Nat.lt_of_not_le hw, by simp only [if_neg hw]⟩

/-! ## What a step is -/

/-- A step that answers a next state ran an instruction, slept, or waited. -/
theorem step_next_cases {s t : State} (h : step s = .next t) :
    (∃ i, fetch s = .run i ∧ exec i s = .next t) ∨
    (fetch s = .sleep ∧ t = sleepStep s) ∨
    (fetch s = .wait ∧ t = s.advance) := by
  unfold step at h
  cases hf : fetch s with
  | run i => rw [hf] at h; exact .inl ⟨i, rfl, h⟩
  | sleep => rw [hf] at h; injection h with h; exact .inr (.inl ⟨rfl, h.symm⟩)
  | wait => rw [hf] at h; injection h with h; exact .inr (.inr ⟨rfl, h.symm⟩)
  | refuse r => rw [hf] at h; cases h

/-- A busy ARBC takes its own step exactly when no command is presented. -/
theorem fetchBusy_eq_run {s : State} {f : Fetch} (h : s.input.cmd = none) : fetchBusy s f = f := by
  simp [fetchBusy, h]

end Sys2Proof.Machine
end

