-- ==== Sys2Proof/Laws/PerInstr.lean ====
section
/-! SUPPORT. Laws made per instruction. `PortOf`: the word of an instruction stands on the instruction's own port, whatever the
parameters are (R70, R85). -/

namespace Sys2Proof.Laws.PortOf

def Statement (i : Instr) : Prop := ∀ p : Config.Params, (encodeWith p i).port = i.port

theorem attach : Statement .attach := fun _ => rfl
theorem select (ch : BitVec 4) : Statement (.select ch) := fun _ => rfl
theorem release (ch : BitVec 4) : Statement (.release ch) := fun _ => rfl
theorem detach : Statement .detach := fun _ => rfl
theorem rdCtl : Statement .rdCtl := fun _ => rfl
theorem wrbReq : Statement .wrbReq := fun _ => rfl
theorem wrRel : Statement .wrRel := fun _ => rfl

end Sys2Proof.Laws.PortOf
end

