-- ==== Sys2Proof/Laws/Safety.lean ====
section
/-! SUPPORT. How the readings of the ports' history go through a list of events, and what passed in a step that appends. -/

namespace Sys2Proof.Machine

variable (tr es : List Event)

@[simp] theorem commandsIn_nil : commandsIn [] = [] := rfl

@[simp] theorem commandsIn_cons_cmd (w : CmdWord) : commandsIn (.cmd w :: tr) = w :: commandsIn tr := rfl

@[simp] theorem commandsIn_cons_sample (x : Nat) : commandsIn (.sample x :: tr) = commandsIn tr := rfl

@[simp] theorem commandsIn_cons_txn (w : TxnWord) (a : AnsWord) : commandsIn (.txn w a :: tr) = commandsIn tr := rfl

@[simp] theorem commandsIn_cons_resp (w : RespWord) : commandsIn (.resp w :: tr) = commandsIn tr := rfl

@[simp] theorem commandsIn_append : commandsIn (tr ++ es) = commandsIn tr ++ commandsIn es := List.filterMap_append

@[simp] theorem samplesIn_nil : samplesIn [] = [] := rfl

@[simp] theorem samplesIn_cons_cmd (w : CmdWord) : samplesIn (.cmd w :: tr) = samplesIn tr := rfl

@[simp] theorem samplesIn_cons_sample (x : Nat) : samplesIn (.sample x :: tr) = x :: samplesIn tr := rfl

@[simp] theorem samplesIn_cons_txn (w : TxnWord) (a : AnsWord) : samplesIn (.txn w a :: tr) = samplesIn tr := rfl

@[simp] theorem samplesIn_cons_resp (w : RespWord) : samplesIn (.resp w :: tr) = samplesIn tr := rfl

@[simp] theorem samplesIn_append : samplesIn (tr ++ es) = samplesIn tr ++ samplesIn es := List.filterMap_append

@[simp] theorem transactionsIn_nil : transactionsIn [] = [] := rfl

@[simp] theorem transactionsIn_cons_cmd (w : CmdWord) : transactionsIn (.cmd w :: tr) = transactionsIn tr := rfl

@[simp] theorem transactionsIn_cons_sample (x : Nat) : transactionsIn (.sample x :: tr) = transactionsIn tr := rfl

@[simp] theorem transactionsIn_cons_txn (w : TxnWord) (a : AnsWord) : transactionsIn (.txn w a :: tr) = w :: transactionsIn tr := rfl

@[simp] theorem transactionsIn_cons_resp (w : RespWord) : transactionsIn (.resp w :: tr) = transactionsIn tr := rfl

@[simp] theorem transactionsIn_append : transactionsIn (tr ++ es) = transactionsIn tr ++ transactionsIn es := List.filterMap_append

@[simp] theorem responsesIn_nil : responsesIn [] = [] := rfl

@[simp] theorem responsesIn_cons_cmd (w : CmdWord) : responsesIn (.cmd w :: tr) = responsesIn tr := rfl

@[simp] theorem responsesIn_cons_sample (x : Nat) : responsesIn (.sample x :: tr) = responsesIn tr := rfl

@[simp] theorem responsesIn_cons_txn (w : TxnWord) (a : AnsWord) : responsesIn (.txn w a :: tr) = responsesIn tr := rfl

@[simp] theorem responsesIn_cons_resp (w : RespWord) : responsesIn (.resp w :: tr) = w :: responsesIn tr := rfl

@[simp] theorem responsesIn_append : responsesIn (tr ++ es) = responsesIn tr ++ responsesIn es := List.filterMap_append

/-- What passed in a step is what it appended. -/
theorem newEvents_of_append {s t : State} {es : List Event} (h : t.trace = s.trace ++ es) : newEvents s t = es := by
  simp [newEvents, h]

/-- What passed over two stretches of a run is what passed in the first and then in the second. -/
theorem newEvents_trans {s u t : State} {es fs : List Event} (hu : u.trace = s.trace ++ es) (ht : t.trace = u.trace ++ fs) :
    newEvents s t = newEvents s u ++ newEvents u t := by
  rw [newEvents_of_append hu, newEvents_of_append ht, newEvents_of_append (es := es ++ fs) (by simp [ht, hu])]

theorem coreRun_next (M : Host.Core) (n : Nat) (s t : M.State) (h : M.step s = .next t) :
    M.run (n + 1) s = M.run n t := by simp [Host.Core.run, h]

theorem coreRun_fault (M : Host.Core) (n : Nat) (s : M.State) (r : M.Fault) (h : M.step s = .fault r) :
    M.run (n + 1) s = .fault r := by simp [Host.Core.run, h]

theorem coreRun_refused (M : Host.Core) (n : Nat) (s : M.State) (r : M.Refusal) (h : M.step s = .refused r) :
    M.run (n + 1) s = .refused r := by simp [Host.Core.run, h]

/-- The run of the claims is the host's run of the machine. -/
theorem run_eq_core_run (n : Nat) (s : State) : run n s = Sys2Proof.core.run n s := by
  induction n generalizing s with
  | zero => rfl
  | succ n ih =>
    cases hs : step s with
    | next t =>
      refine Eq.trans ?_ (coreRun_next Sys2Proof.core n s t hs).symm
      simp only [run, hs]
      exact ih t
    | fault r =>
      refine Eq.trans ?_ (coreRun_fault Sys2Proof.core n s r hs).symm
      simp only [run, hs]
      rfl
    | refused r =>
      refine Eq.trans ?_ (coreRun_refused Sys2Proof.core n s r hs).symm
      simp only [run, hs]
      rfl

/-- One step more at the front of a run. -/
theorem runsTo_succ {n : Nat} {s u t : State} (h : step s = .next u) : runsTo (n + 1) s t ↔ runsTo n u t := by
  simp [runsTo, run, h]

/-- A run of no steps stays where it is. -/
theorem runsTo_zero {s t : State} : runsTo 0 s t ↔ s = t := by
  simp [runsTo, run]

/-- A run of `m + n` steps is a run of `m` and then one of `n`. -/
theorem runsTo_add {m n : Nat} {s u t : State} (h : runsTo m s u) : runsTo (m + n) s t ↔ runsTo n u t := by
  induction m generalizing s with
  | zero => rw [runsTo_zero] at h; simp [h]
  | succ m ih =>
    cases hs : step s with
    | next v =>
      rw [runsTo_succ hs] at h
      rw [Nat.succ_add, runsTo_succ hs]
      exact ih h
    | fault r => simp [runsTo, run, hs] at h
    | refused r => simp [runsTo, run, hs] at h

end Sys2Proof.Machine
end

