-- ==== Sys2Proof/Machine/Trace.lean ====
section
/-! DEFINITION. The spec's written forms (R83, R84): commands in assembler syntax, and the lines in which a run is written down.
They are notation, not behaviour (D32): no step reads them. -/

namespace Sys2Proof.Machine

/-- A command as written, with the channel left out or given in decimal (R83, R84). -/
inductive AsmCommand where
  | attach
  | select (ch : Option Nat)
  | release (ch : Option Nat)
  | detach
deriving DecidableEq, Repr

/-- The channel of a written command: none stands for 0 (R84), and CH has four bits (R71). -/
def asmChannel (ch : Option Nat) : Option (BitVec 4) :=
  match ch with
  | none => some 0#4
  | some n => if n < 16 then some (BitVec.ofNat 4 n) else none

/-- The instruction a written command stands for, if its channel fits the field. -/
def assemble : AsmCommand → Option Instr
  | .attach => some .attach
  | .select ch => (asmChannel ch).map Instr.select
  | .release ch => (asmChannel ch).map Instr.release
  | .detach => some .detach

/-- One hexadecimal digit. -/
def hexDigit (n : Nat) : String :=
  match n with
  | 0 => "0" | 1 => "1" | 2 => "2" | 3 => "3" | 4 => "4" | 5 => "5" | 6 => "6" | 7 => "7" | 8 => "8" | 9 => "9"
  | 10 => "A" | 11 => "B" | 12 => "C" | 13 => "D" | 14 => "E" | _ => "F"

/-- The low `k` hexadecimal digits of a number. -/
def hexDigits (k n : Nat) : String :=
  match k with
  | 0 => ""
  | k + 1 => hexDigits k (n / 16) ++ hexDigit (n % 16)

/-- A value in hexadecimal, with the digits its width takes: two for a byte. -/
def hexValue (w : Nat) (b : BitVec w) : String := "0x" ++ hexDigits ((w + 3) / 4) b.toNat

def hexByte (b : Byte) : String := hexValue 8 b

/-- The transport operation of a request word: KIND alone decides (R82); `0b11` is none (R76). -/
def txnOfWord (w : TxnWord) : Option Txn :=
  match (txnKind w).toNat with
  | 0 => some (.readByte (txnAddr w))
  | 1 => some (.writeByte (txnAddr w) (txnD0 w))
  | 2 => some (.writeBlock (txnAddr w) (txnD0 w) (txnD1 w))
  | _ => none

/-- A transaction and its answer: `RD a`, `WR a, v` or `WRB a, v1, v2`, then `=> ok b`, `=> ok` or `=> err e`. -/
def txnLine (t : Txn) (a : AnsWord) : String :=
  let failed := " => err " ++ hexValue Config.errW (ansErr a)
  match t with
  | .readByte r => "RD " ++ hexByte r ++ if ansOk a then " => ok " ++ hexByte (ansRdata a) else failed
  | .writeByte r v => "WR " ++ hexByte r ++ ", " ++ hexByte v ++ if ansOk a then " => ok" else failed
  | .writeBlock r v1 v2 =>
    "WRB " ++ hexByte r ++ ", " ++ hexByte v1 ++ ", " ++ hexByte v2 ++ if ansOk a then " => ok" else failed

/-- A response: `<- OK`, `<- TIMEOUT`, `<- TRANSPORT(e)` or `<- UNSUPPORTED`. -/
def respLine (w : RespWord) : String :=
  match (respCodeBits w).toNat with
  | 0 => "<- OK"
  | 1 => "<- TIMEOUT"
  | 2 => "<- TRANSPORT(" ++ hexValue Config.errW (respPayload w) ++ ")"
  | _ => "<- UNSUPPORTED"

/-- A command word as written, by its OP and CH fields. -/
def cmdLine (w : CmdWord) : String :=
  match (cmdOp w).toNat with
  | 1 => "ATTACH"
  | 2 => "SELECT " ++ toString (cmdCh w).toNat
  | 3 => "RELEASE " ++ toString (cmdCh w).toNat
  | 4 => "DETACH"
  | _ => ""

/-- One line of a run (R83); the lines of a run are those of its events in order. -/
def eventLine : Event → String
  | .cmd w => cmdLine w
  | .sample t => "@" ++ toString t
  | .txn w a => match txnOfWord w with
    | some t => txnLine t a
    | none => ""
  | .resp w => respLine w

def runLines (tr : List Event) : List String := tr.map eventLine

end Sys2Proof.Machine
end

