-- ==== Sys2Proof/Tests/Slice0.lean ====
section
/-! SUPPORT. Small tests of the model against the spec's own words and vectors (spec/95_test_vectors.md, cited at each), and one
witness for the hypotheses of each statement that has any. -/

namespace Sys2Proof.Machine.Tests

/-! ## Helpers -/

/-- The next state, if the outcome is one. -/
def nextOf (o : Host.Outcome State Fault Refusal) : Option State :=
  match o with
  | .next t => some t
  | .fault _ => none
  | .refused _ => none

/-- The refusal, if the outcome is one. -/
def refusalOf (o : Host.Outcome State Fault Refusal) : Option Refusal :=
  match o with
  | .next _ => none
  | .fault _ => none
  | .refused r => some r

/-- A state in `st` with retry_delay 1000 and the given inputs to come. -/
def at' (st : SeqState) (env : List Input) : State :=
  { State.reset with st := st, retryDelay := 1000, env := env }

/-- An input record: command, answer, advance; the capability is there. -/
def inp (cmd : Option CmdWord) (ans : AnsWord) (adv : Nat) : Input := ⟨cmd, ans, adv, true⟩

/-- The answers of V2: `=> ok b`, `=> ok`, `=> err e`. -/
def okRead (b : Byte) : AnsWord := ansWord true b 0x00#8
def okWrite : AnsWord := ansWord true 0x00#8 0x00#8
def failed (e : Byte) : AnsWord := ansWord false 0x00#8 e

/-! ## WellFormed: the one check, R73 -/

theorem test_wf_select_channel_0 : (Instr.select 0#4).wf = true := by decide
theorem test_wf_select_channel_1_refused : (Instr.select 1#4).wf = false := by decide
theorem test_wf_release_channel_15_refused : (Instr.release 15#4).wf = false := by decide

/-! ## Decoding: words written out from R71, R72 and R76, R77; rejections of V1 -/

theorem test_decode_attach : decode (.cmd 0b0000_0_001#8) = .ok .attach := by decide
theorem test_decode_select : decode (.cmd 0b0000_0_010#8) = .ok (.select 0#4) := by decide
theorem test_decode_release : decode (.cmd 0b0000_0_011#8) = .ok (.release 0#4) := by decide
theorem test_decode_detach : decode (.cmd 0b0000_0_100#8) = .ok .detach := by decide
theorem test_decode_rd_ctl : decode (.txn 0b00_00000001_00000000_00000000#26) = .ok .rdCtl := by decide
theorem test_decode_wrb_req : decode (.txn 0b10_10000001_00100101_00010100#26) = .ok .wrbReq := by decide
theorem test_decode_wr_rel : decode (.txn 0b01_00000001_00000000_00000000#26) = .ok .wrRel := by decide
theorem test_decode_rejects_by_name :
    decode (.cmd 0x00#8) = .error (.reservedOp 0#3) ∧ decode (.cmd 0x07#8) = .error (.reservedOp 7#3) ∧
    decode (.cmd 0x0A#8) = .error .reservedBit ∧ decode (.cmd 0x11#8) = .error (.channel 1#4) ∧
    decode (.cmd 0x12#8) = .error (.channel 1#4) ∧ decode (.cmd 0xF3#8) = .error (.channel 15#4) ∧
    decode (.txn 0x3000000#26) = .error .txnKind ∧ decode (.txn 0x0020000#26) = .error .txnNotEmitted := by decide
theorem test_encode_words :
    encode .attach = .cmd 0x01#8 ∧ encode (.select 0#4) = .cmd 0x02#8 ∧ encode (.release 0#4) = .cmd 0x03#8 ∧
    encode .detach = .cmd 0x04#8 ∧ encode .rdCtl = .txn 0x0010000#26 ∧ encode .wrbReq = .txn 0x2812514#26 ∧
    encode .wrRel = .txn 0x1010000#26 := by decide

/-! ## Words of V2, classes of V3, comparison of V5 -/

theorem test_response_words :
    respWord .ok 0x00#8 = 0x0000#16 ∧ ArbcError.timeout.word = 0x0001#16 ∧ (ArbcError.transport 0x05#8).word = 0x0502#16 ∧
    (ArbcError.transport 0xFF#8).word = 0xFF02#16 ∧ ArbcError.unsupported.word = 0x0003#16 := by decide
theorem test_answer_words :
    readResult 0x10700#17 = .ok 0x07#8 ∧ writeResult 0x10000#17 = .ok () ∧ readResult 0x00005#17 = .error 0x05#8 := by decide
theorem test_classes_v3 :
    classify Config.hw 0x01#8 = .requested ∧ classify Config.hw 0x03#8 = .other ∧ classify Config.hw 0x21#8 = .requested ∧
    classify Config.hw 0x25#8 = .other ∧ classify Config.hw 0x27#8 = .connected ∧ classify Config.hw 0xFE#8 = .other := by decide
theorem test_class_under_mask_ff :
    classify { Config.hw with requestedMask := 0xFF#8 } 0x21#8 = .other ∧
    classify { Config.hw with requestedMask := 0xFF#8 } 0x01#8 = .requested := by decide
theorem test_counter_s9_s10 : timeGeHw 8 0x02#8 0xFE#8 = true ∧ timeGeHw 8 0xFD#8 0xFE#8 = false := by decide
theorem test_lines_of_w7 :
    runLines [.cmd 0x02#8, .sample 0, .txn 0x0010000#26 0x10000#17, .txn 0x2812514#26 0x10000#17, .sample 100, .sample 100,
      .txn 0x0010000#26 0x10700#17, .resp 0x0000#16] =
    ["SELECT 0", "@0", "RD 0x01 => ok 0x00", "WRB 0x81, 0x25, 0x14 => ok", "@100", "@100", "RD 0x01 => ok 0x07", "<- OK"] := by
  decide
theorem test_pseudo_select : assemble (.select none) = some (.select 0#4) ∧ assemble (.select (some 16)) = none := by decide

/-! ## One step of each instruction -/

-- T1
theorem test_attach_unsupported :
    (nextOf (exec .attach { at' .unattached [⟨none, okWrite, 0, false⟩] with attachOk := false })).map
      (fun t => (t.st, responsesIn t.trace, transactionsIn t.trace)) = some (.unattached, [0x0003#16], []) := by decide
-- T5
theorem test_attach_when_attached : refusalOf (exec .attach (at' .idle [])) = some (.commandInState .idle) := by decide
-- S1
theorem test_select_deadline :
    (nextOf (exec (.select 0#4) (at' .idle [inp none okWrite 1000]))).map (fun t => (t.st, t.deadline, t.retryDelay)) =
      some (.selRd, 251000, 0) := by decide
-- RL4
theorem test_release_unattached : refusalOf (exec (.release 0#4) (at' .unattached [])) = some (.commandInState .unattached) := by
  decide
-- RL1, first step
theorem test_release_accept :
    (nextOf (exec (.release 0#4) (at' .idle [inp none okWrite 7]))).map (fun t => (t.st, t.retryDelay, transactionsIn t.trace)) =
      some (.relWr, 1000, []) := by decide
-- T6
theorem test_detach :
    (nextOf (exec .detach { at' .idle [inp none okWrite 0] with attachOk := true })).map
      (fun t => (t.st, t.attachOk, responsesIn t.trace, transactionsIn t.trace)) =
      some (.unattached, false, [0x0000#16], []) := by decide
-- AR6
theorem test_rd_connected_keeps_delay :
    (nextOf (exec .rdCtl (at' .selRd [inp none (okRead 0xFF#8) 0]))).map (fun t => (t.st, t.retryDelay, t.ctlObs)) =
      some (.idle, 1000, 0xFF#8) := by decide
-- AR8
theorem test_rd_error :
    (nextOf (exec .rdCtl (at' .selRd [inp none (failed 0x05#8) 0]))).map
      (fun t => (t.st, t.retryDelay, responsesIn t.trace)) = some (.idle, 1000, [0x0502#16]) := by decide
-- AR3 and S7
theorem test_wrb_short_sleep :
    (nextOf (exec .wrbReq (at' .selWr [inp none okWrite 70]))).map (fun t => (t.st, t.retryDelay, t.wakeAt)) =
      some (.selSlp, 0, 70) := by decide
-- AR9
theorem test_wrb_error_keeps_delay :
    (nextOf (exec .wrbReq (at' .selWr [inp none (failed 0x09#8) 0]))).map
      (fun t => (t.st, t.retryDelay, responsesIn t.trace)) = some (.idle, 1000, [0x0902#16]) := by decide
-- RL2
theorem test_release_write_error :
    (nextOf (exec .wrRel (at' .relWr [inp none (failed 0x11#8) 0]))).map (fun t => (t.st, responsesIn t.trace)) =
      some (.idle, [0x1102#16]) := by decide
-- T2, T3, T4
theorem test_attach_write_t2_t3_t4 :
    ((attachReset Config.hw (at' .attWr [inp none okWrite 0])).st,
      (attachReset (Config.paramsWith .stayUnattached) (at' .attWr [inp none (failed 0x05#8) 0])).st,
      (attachReset (Config.paramsWith .stayUnattached) (at' .attWr [inp none (failed 0x05#8) 0])).attachOk,
      (attachReset (Config.paramsWith .attachAnyway) (at' .attWr [inp none (failed 0x05#8) 0])).st,
      (attachReset (Config.paramsWith .attachAnyway) (at' .attWr [inp none (failed 0x05#8) 0])).attachOk) =
    (.idle, .unattached, false, .idle, true) := by decide

/-- SEL_SLP as in S2 to S4: wake_at 249000, deadline 250000, CLOCK at 240000. -/
def asleep (adv : Nat) : State :=
  { at' .selSlp [inp none okWrite adv] with wakeAt := 249000, deadline := 250000, now := 240000 }

theorem test_sleep_s2_s3_s4 :
    (sleepStep (asleep 9999)).st = .selRd ∧ (sleepStep (asleep 10000)).st = .idle ∧
    responsesIn (sleepStep (asleep 10000)).trace = [0x0001#16] ∧ (sleepStep (asleep 8999)).st = .selSlp ∧
    (sleepStep (asleep 8999)).trace = [] := by decide
-- T8
theorem test_command_while_busy :
    refusalOf (step (at' .selSlp [inp (some 0x02#8) okWrite 0])) = some (.commandInState .selSlp) := by decide
-- P1, first line, by the step
theorem test_reset_attach :
    (nextOf (step (State.reset.withFetchWord 8 0x01))).map (fun t => (t.st, t.attachOk)) = some (.attWr, false) := by decide
theorem test_placed_txn_words_run :
    ((nextOf (step (State.reset.withFetchWord 32 0x0010000))).map fun t => transactionsIn t.trace) = some [0x0010000#26] ∧
    ((nextOf (step (State.reset.withFetchWord 32 0x2812514))).map fun t => transactionsIn t.trace) = some [0x2812514#26] ∧
    ((nextOf (step (State.reset.withFetchWord 32 0x1010000))).map fun t => transactionsIn t.trace) = some [0x1010000#26] := by
  decide

/-! ## Witnesses: the hypotheses of each statement hold together somewhere -/

/-- Every flag has its own position in the default layout. -/
theorem ctlBits_hw_injective : Function.Injective Config.hw.ctlBits := by
  intro f g
  cases f <;> cases g <;> simp [Config.hw, Config.paramsWith, Config.ctlBitsDefault]

theorem witness_DecodeOfEncodeIsIdentity :
    (Instr.select 0#4).wfWith Config.hw = true ∧ (Instr.release 15#4).wfWith { Config.hw with channels := 16 } = true := by decide
theorem witness_DecodedWordIsTheEncodedOne :
    decodeWith Config.hw (.cmd 0x03#8) = .ok (.release 0#4) ∧
    decodeWith { Config.hw with channels := 16 } (.cmd 0xF2#8) = .ok (.select 15#4) := by decide
theorem witness_ReservedCommandWordsAreRefused :
    (at' .selRd [inp (some 0x0A#8) okWrite 0]).input.cmd = some 0x0A#8 ∧ (0x0A#8).extractLsb' 3 1 = 1#1 ∧
    (0x12#8).extractLsb' 4 4 ≠ 0#4 ∧ (0x00#8).extractLsb' 0 3 = 0b000#3 ∧ (0x07#8).extractLsb' 0 3 = 0b111#3 := by decide
theorem witness_AnswerWordFields :
    (0x10700#17).extractLsb' 16 1 = 1#1 ∧ (0x00005#17).extractLsb' 16 1 = 0#1 := by decide
theorem witness_RequestSetsExactlyThreeFlags : Function.Injective Config.hw.ctlBits := ctlBits_hw_injective
theorem witness_ControlByteHasOneClass :
    Function.Injective Config.hw.ctlBits ∧ Config.hw.requestedMask = arbMask Config.hw ∧
    ({ Config.hw with requestedMask := 0xFF#8 } : Config.Params).requestedMask = 0xFF#8 :=
  ⟨ctlBits_hw_injective, by decide, by decide⟩
theorem witness_PredicatesReadTheArbitrationFlags :
    Function.Injective Config.hw.ctlBits ∧ Config.hw.requestedMask = arbMask Config.hw :=
  ⟨ctlBits_hw_injective, by decide⟩
theorem witness_CounterComparisonAgreesWithNaturals :
    0 < 8 ∧ 0x102 < 0xFE + 2 ^ (8 - 1) ∧ 0xFE < 0x102 + 2 ^ (8 - 1) ∧ 127 < 0 + 2 ^ (8 - 1) := by decide
theorem witness_WaitingStepRunsTheDecodedCommand :
    (at' .idle [inp (some 0x04#8) okWrite 0]).input.cmd = some 0x04#8 ∧ decode (.cmd 0x04#8) = .ok .detach ∧
    (at' .unattached [inp (some 0x05#8) okWrite 0]).input.cmd = some 0x05#8 ∧
    decode (.cmd 0x05#8) = .error (.reservedOp 5#3) := by decide
theorem witness_BusyStepRunsItsTransaction :
    (at' .attWr [inp none okWrite 0]).input.cmd = none ∧ (at' .relWr [inp none okWrite 0]).st = .relWr ∧
    (at' .selRd [inp none okWrite 0]).st = .selRd ∧ (at' .selWr [inp none okWrite 0]).st = .selWr := by decide
theorem witness_PlacedWordIsRunNext :
    decodeTableWord 8 0x04 = some .detach ∧ decodeTableWord 26 0x1010000 = some .wrRel ∧
    decodeTableWord 32 0x2812514 = some .wrbReq := by decide
theorem witness_CommandAcceptedOnlyInItsState :
    (at' .unattached [inp (some 0x01#8) okWrite 0]).input.cmd = some 0x01#8 ∧ decode (.cmd 0x01#8) = .ok .attach ∧
    (at' .relWr [inp (some 0x02#8) okWrite 0]).input.cmd = some 0x02#8 ∧ decode (.cmd 0x02#8) = .ok (.select 0#4) := by decide
theorem witness_WaitingKeepsEveryRegister :
    (asleep 8999).input.cmd = none ∧ (asleep 8999).st = .selSlp ∧ (asleep 8999).sample < (asleep 8999).wakeAt ∧
    (at' .idle [inp none okWrite 0]).input.cmd = none := by decide
theorem witness_AttachAccept :
    (at' .unattached [⟨none, okWrite, 0, false⟩]).input.caps = false ∧ (at' .unattached [inp none okWrite 0]).input.caps = true ∧
    (at' .unattached []).st = .unattached := by decide
theorem witness_AttachResetWritesRelease :
    (at' .attWr []).st = .attWr ∧ writeResult (at' .attWr [inp none okWrite 0]).input.ans = .ok () ∧
    writeResult (at' .attWr [inp none (failed 0xFF#8) 0]).input.ans = .error 0xFF#8 := by decide
theorem witness_DetachStep : (at' .idle []).st = .idle ∧ (at' .selSlp []).st ≠ .idle := by decide
theorem witness_SelectAcceptOpensTheWindow :
    (at' .idle []).st = .idle ∧ (asleep 9999).st.busy = true ∧ nextOf (step (asleep 9999)) = some (sleepStep (asleep 9999)) ∧
    ((nextOf (step (at' .selWr [inp none okWrite 0]))).map fun t => t.st) = some .selSlp := by decide
theorem witness_ReleaseAccept : (at' .idle [inp none okWrite 0]).st = .idle := by decide
theorem witness_OtherChannelsAreRefused : 1#4 ≠ 0#4 ∧ 15#4 ≠ 0#4 := by decide
theorem witness_ReleaseWriteEndsTheCommand :
    (at' .relWr []).st = .relWr ∧ writeResult (at' .relWr [inp none okWrite 0]).input.ans = .ok () ∧
    writeResult (at' .relWr [inp none (failed 0x00#8) 0]).input.ans = .error 0x00#8 := by decide
theorem witness_ArbitrateReadPhase :
    (at' .selRd []).st = .selRd ∧ readResult (at' .selRd [inp none (failed 0x05#8) 0]).input.ans = .error 0x05#8 ∧
    readResult (at' .selRd [inp none (okRead 0x07#8) 0]).input.ans = .ok 0x07#8 ∧ connected Config.hw 0x07#8 = true ∧
    requested Config.hw 0x01#8 = true ∧ connected Config.hw 0x25#8 = false ∧ requested Config.hw 0x25#8 = false := by decide
theorem witness_ArbitrateRequestPhase :
    (at' .selWr []).st = .selWr ∧ writeResult (at' .selWr [inp none okWrite 0]).input.ans = .ok () ∧
    writeResult (at' .selWr [inp none (failed 0x09#8) 0]).input.ans = .error 0x09#8 := by decide
theorem witness_AcquiredExitStopsTheWrites :
    let s := at' .selRd [inp none (okRead 0x27#8) 0, inp none okWrite 5]
    s.st = .selRd ∧ readResult s.input.ans = .ok 0x27#8 ∧ connected Config.hw 0x27#8 = true ∧
    (∀ i ∈ s.env, i.cmd = none) ∧ 0 < 2 ∧ 2 ≤ s.env.length := by decide
theorem witness_SleepEndsAtItsSample :
    (asleep 8999).input.cmd = none ∧ (asleep 8999).sample < (asleep 8999).wakeAt ∧
    (asleep 9000).wakeAt ≤ (asleep 9000).sample ∧ (asleep 9000).sample < (asleep 9000).deadline ∧
    (asleep 10000).wakeAt ≤ (asleep 10000).sample ∧ (asleep 10000).deadline ≤ (asleep 10000).sample := by decide
theorem witness_TransactionsOnlyInTheirStates :
    (at' .selWr []).st ≠ .selRd ∧ (at' .selRd []).st ≠ .selWr ∧ (at' .idle []).st ≠ .relWr ∧ (at' .idle []).st ≠ .attWr := by
  decide
theorem witness_FailedAttachResetUnderEachPolicy :
    (at' .attWr []).st = .attWr ∧ writeResult (at' .attWr [inp none (failed 0x03#8) 0]).input.ans = .error 0x03#8 ∧
    (Config.paramsWith .stayUnattached).attachOnReleaseError = .stayUnattached ∧
    (Config.paramsWith .attachAnyway).attachOnReleaseError = .attachAnyway := by decide

/-- A step in which SELECT is accepted, one with a failed read, one that times out and one that waits: for the statements over
every step that answers a next state. -/
theorem witness_step_next :
    ((nextOf (step (at' .idle [inp (some 0x02#8) okWrite 0]))).map fun t => t.deadline) = some 250000 ∧
    ((nextOf (step (at' .selRd [inp none (failed 0x05#8) 0]))).map fun t => t.st) = some .idle ∧
    ((nextOf (step (asleep 10000))).map fun t => responsesIn t.trace) = some [0x0001#16] ∧
    ((nextOf (step (at' .idle [inp none okWrite 3]))).map fun t => t.now) = some 3 := by decide
theorem witness_SequencingTable :
    ((nextOf (step (at' .selRd [inp none (okRead 0x25#8) 0]))).map fun t => t.st) = some .selWr ∧
    ((nextOf (step (at' .relWr [inp none (failed 0x11#8) 0]))).map fun t => responsesIn t.trace) = some [0x1102#16] := by decide
theorem witness_LastControlByteIsNeverRead :
    ((nextOf (step { asleep 9999 with ctlObs := 0xAB#8 })).map fun t => (t.st, t.ctlObs)) = some (.selRd, 0xAB#8) := by decide
theorem witness_PortHistoryIsNeverRead :
    ((nextOf (step { at' .relWr [inp none okWrite 0] with trace := [.cmd 0x03#8] })).map fun t => t.trace.length) = some 3 := by
  decide
theorem witness_EachRegisterHasItsWriters :
    ((nextOf (step (at' .selRd [inp none (okRead 0x01#8) 0]))).map fun t => (t.wakeAt, t.ctlObs)) = some (1000, 0x01#8) ∧
    ((nextOf (step { at' .idle [inp (some 0x04#8) okWrite 0] with attachOk := true })).map fun t => t.attachOk) = some false := by
  decide
theorem witness_InstructionFrames :
    ((nextOf (exec .wrbReq (at' .selWr [inp none okWrite 0]))).map fun t => t.st) = some .selSlp ∧
    ((nextOf (exec .attach (at' .unattached [inp none okWrite 0]))).map fun t => t.st) = some .attWr ∧
    ((nextOf (exec (.select 0#4) (at' .idle [inp none okWrite 0]))).map fun t => t.st) = some .selRd ∧
    ((nextOf (exec (.release 0#4) (at' .idle [inp none okWrite 0]))).map fun t => t.st) = some .relWr ∧
    ((nextOf (exec .detach (at' .idle [inp none okWrite 0]))).map fun t => t.st) = some .unattached ∧
    ((nextOf (exec .rdCtl (at' .selRd [inp none (okRead 0x25#8) 0]))).map fun t => t.st) = some .selWr ∧
    ((nextOf (exec .wrRel (at' .relWr [inp none okWrite 0]))).map fun t => t.st) = some .idle := by decide
theorem witness_TransportErrorIsPassedOnVerbatim :
    let s := at' .selRd [inp none (failed 0x05#8) 0]
    ansOk s.input.ans = false ∧ s.st = .selRd ∧ s.st ≠ .attWr ∧ ((nextOf (step s)).map fun t => t.st) = some .idle := by decide
theorem witness_TimeoutAndUnsupportedHaveOneSource :
    ((nextOf (step (asleep 10000))).map fun t => responsesIn t.trace) = some [respWord .timeout 0x00#8] ∧
    ((nextOf (step (at' .unattached [⟨some 0x01#8, okWrite, 0, false⟩]))).map fun t => responsesIn t.trace) =
      some [respWord .unsupported 0x00#8] := by decide
theorem witness_DeadlineIsTestedOnlyAfterASleep :
    (at' .selRd [inp none (okRead 0x07#8) 0]).st ≠ .selSlp ∧
    ((nextOf (step (at' .selRd [inp none (okRead 0x07#8) 0]))).map fun t => t.st) = some .idle := by decide
theorem witness_OldRetryDelayIsNeverRead :
    (at' .selWr [inp none okWrite 0]).st = .selWr ∧
    ((nextOf (step (at' .selWr [inp none okWrite 0]))).map fun t => (t.st, t.wakeAt)) = some (.selSlp, 0) := by decide
theorem witness_PowerOnReset : (inp (some 0x01#8) okWrite 0).cmd = some 0x01#8 ∧ (inp (some 0xFF#8) okWrite 0).cmd = some 0xFF#8 := by
  decide
theorem witness_StepKeepsRegisterInvariant :
    RegisterInv { asleep 9999 with attachOk := true, wakeAt := 241000 } ∧
    ((nextOf (step { asleep 9999 with attachOk := true, wakeAt := 241000 })).map fun t => t.st) = some .selRd :=
  ⟨⟨by decide, by decide, by decide, by decide⟩, by decide⟩
theorem witness_StepKeepsOneResponsePerCommand :
    OneResponsePerCommand { at' .relWr [inp none okWrite 0] with trace := [.cmd 0x03#8] } ∧
    ((nextOf (step { at' .relWr [inp none okWrite 0] with trace := [.cmd 0x03#8] })).map fun t => responsesIn t.trace) =
      some [0x0000#16] := ⟨by unfold OneResponsePerCommand; decide, by decide⟩
theorem witness_StepKeepsOnlyThreeTransactions :
    OnlyThreeTransactions (at' .relWr [inp none okWrite 0]) ∧
    ((nextOf (step (at' .relWr [inp none okWrite 0]))).map fun t => transactionsIn t.trace) = some [0x1010000#26] :=
  ⟨fun _ h => absurd h List.not_mem_nil, by decide⟩
theorem witness_TransactionsAddressOnlyControl :
    ((nextOf (step (at' .selWr [inp none okWrite 0]))).map fun t => transactionsIn t.trace) = some [0x2812514#26] := by decide
theorem witness_StepKeepsRequestsGuarded :
    RequestsFollowOtherReads { at' .selWr [inp none okWrite 0] with trace := [.txn 0x0010000#26 (okRead 0x25#8)] } ∧
    ((nextOf (step { at' .selWr [inp none okWrite 0] with trace := [.txn 0x0010000#26 (okRead 0x25#8)] })).map
      fun t => transactionsIn t.trace) = some [0x0010000#26, 0x2812514#26] := by
  refine ⟨⟨?_, fun _ => ⟨[], okRead 0x25#8, 0x25#8, rfl, by decide, by decide⟩⟩, by decide⟩
  intro before a after h
  cases before with
  | nil => simp at h
  | cons e es => simp at h
theorem witness_StepKeepsSamplesOrdered :
    SamplesOrdered { asleep 9000 with trace := [.sample 5, .sample 240000] } ∧
    ((nextOf (step { asleep 9000 with trace := [.sample 5, .sample 240000] })).map fun t => samplesIn t.trace) =
      some [5, 240000, 249000] := ⟨⟨by decide, by decide⟩, by decide⟩
theorem witness_ArbitrateOutcomeByClass :
    readResult (okRead 0x00#8) = .ok 0x00#8 ∧ writeResult okWrite = .ok () ∧ classify Config.hw 0x00#8 = .other ∧
    classify Config.hw 0x07#8 = .connected ∧ classify Config.hw 0x01#8 = .requested ∧
    (at' .selRd [inp none (okRead 0x00#8) 0, inp none okWrite 0]).env = inp none (okRead 0x00#8) 0 :: inp none okWrite 0 :: [] := by
  decide
theorem witness_RequestThenGrantTakesTwoPolls :
    (at' .idle [inp (some 0x02#8) okWrite 0, inp none (okRead 0x00#8) 0, inp none okWrite 100, inp none okWrite 0,
      inp none (okRead 0x07#8) 0]).st = .idle ∧ readResult (okRead 0x00#8) = .ok 0x00#8 ∧
    classify Config.hw 0x00#8 = .other ∧ writeResult okWrite = .ok () ∧ readResult (okRead 0x07#8) = .ok 0x07#8 ∧
    classify Config.hw 0x07#8 = .connected ∧ 0 + 100 + 0 < Config.hw.timeoutUs := by decide
theorem witness_SelectOnHeldBusIsOneRead :
    (at' .idle [inp (some 0x02#8) okWrite 0, inp none (okRead 0x07#8) 0]).st = .idle ∧
    readResult (okRead 0x07#8) = .ok 0x07#8 ∧ classify Config.hw 0x07#8 = .connected := by decide
theorem witness_TwoReleasesIssueTheSameWrite :
    (at' .idle [inp (some 0x03#8) okWrite 0, inp none okWrite 0, inp (some 0x03#8) okWrite 0, inp none (failed 0x11#8) 0]).st = .idle := by
  decide
theorem witness_AttachIssuesOneReleaseWrite :
    (at' .unattached [inp (some 0x01#8) okWrite 0, inp none okWrite 0]).st = .unattached ∧
    (inp (some 0x01#8) okWrite 0).caps = true ∧ writeResult (inp none okWrite 0).ans = .ok () := by decide
theorem witness_ContendedSelectReadsAtMost250Times :
    let s := at' .idle [inp (some 0x02#8) okWrite 0, inp none (okRead 0x01#8) 0, inp none (okRead 0x21#8) 250000]
    s.st = .idle ∧ 0 < 3 ∧ 3 ≤ s.env.length ∧
    (∀ i ∈ [inp none (okRead 0x01#8) 0, inp none (okRead 0x21#8) 250000],
      i.cmd = none ∧ ∃ b, readResult i.ans = .ok b ∧ classify Config.hw b = .requested) := by
  refine ⟨by decide, by decide, by decide, ?_⟩
  intro i hi
  simp only [List.mem_cons, List.not_mem_nil, or_false] at hi
  rcases hi with rfl | rfl
  · exact ⟨rfl, 0x01#8, by decide, by decide⟩
  · exact ⟨rfl, 0x21#8, by decide, by decide⟩
/-- Answers to come, however many, with no command and one microsecond to each step. -/
theorem quiet_record_of_replicate (n : Nat) :
    ∀ i ∈ List.replicate n (inp none (okRead 0x00#8) 1), i.cmd = none ∧ 1 ≤ i.advance := by
  intro i hi
  rw [List.eq_of_mem_replicate hi]
  exact ⟨rfl, Nat.le_refl 1⟩
theorem witness_SelectAnswersWhileTheClockAdvances :
    ∃ (s : State) (i0 : Input) (rest : List Input), s.st = .idle ∧ s.env = i0 :: rest ∧ i0.cmd = some 0x02#8 ∧
      (∀ i ∈ rest, i.cmd = none ∧ 1 ≤ i.advance) ∧ Config.hw.timeoutUs + Config.hw.longUs + 10 ≤ rest.length := by
  generalize Config.hw.timeoutUs + Config.hw.longUs + 10 = n
  exact ⟨at' .idle (inp (some 0x02#8) okWrite 0 :: List.replicate n (inp none (okRead 0x00#8) 1)), inp (some 0x02#8) okWrite 0,
    List.replicate n (inp none (okRead 0x00#8) 1), rfl, rfl, rfl, quiet_record_of_replicate n, by rw [List.length_replicate]⟩

end Sys2Proof.Machine.Tests
end

section
/-! PROOFS. The flags of the CONTROL values ARBC writes (R8, R34), what one step of ARBC does before the environment moves on
(R22), and the statements of 00_scope.md. -/

namespace Sys2Proof.Machine

/-! ## Flags of the derived constants -/

/-- A mask holds the bit of its own flag only: with distinct positions, no other flag is set in it. -/
theorem ctlBit_ctlMask {p : Config.Params} (hp : Function.Injective p.ctlBits) (f g : Config.CtlField) :
    ctlBit p f (ctlMask p g) = true ↔ f = g := by
  have hone : ∀ i j : Fin 8, (1#8 <<< j.val).getLsbD i.val = true ↔ i = j := by decide
  exact (hone (p.ctlBits f) (p.ctlBits g)).trans hp.eq_iff

@[simp] theorem ctlBit_or (p : Config.Params) (f : Config.CtlField) (a b : Byte) :
    ctlBit p f (a ||| b) = (ctlBit p f a || ctlBit p f b) := BitVec.getLsbD_or

/-- The request value has the flags of its three masks (R8). -/
theorem ctlBit_reqValue {p : Config.Params} (hp : Function.Injective p.ctlBits) (f : Config.CtlField) :
    ctlBit p f (reqValue p) = true ↔ f = .lockReq ∨ f = .busConnect ∨ f = .idleTimerDis := by
  simp only [reqValue, ctlBit_or, Bool.or_eq_true, ctlBit_ctlMask hp, or_assoc]

/-- The release value has no flag (R8). -/
@[simp] theorem ctlBit_releaseValue (p : Config.Params) (f : Config.CtlField) : ctlBit p f releaseValue = false :=
  BitVec.getLsbD_zero

/-! ## What one step does -/

/-- What a step does to `s` before the environment moves on, with what decides it: one case per outcome of the rules of R22.
`step_next_body` ties it to `step`. -/
inductive StepBody (s : State) : State → Prop
  | wait (hst : s.st = .unattached ∨ s.st = .idle) : StepBody s s
  | attachAccept (hst : s.st = .unattached) (hcaps : s.input.caps = true) :
      StepBody s { s.emit [.cmd 0x01#8] with st := .attWr }
  | attachUnsupported (hst : s.st = .unattached) (hcaps : s.input.caps = false) :
      StepBody s ((s.emit [.cmd 0x01#8]).raise .unsupported)
  | attachDone (hst : s.st = .attWr)
      (hdone : writeResult s.input.ans = .ok () ∨ Config.hw.attachOnReleaseError = .attachAnyway) :
      StepBody s ({ s.emit [.txn 0x1010000#26 s.input.ans] with attachOk := true }.succeed .idle)
  | attachFailed (e : ErrPayload) (hst : s.st = .attWr) (hans : writeResult s.input.ans = .error e)
      (hpolicy : Config.hw.attachOnReleaseError = .stayUnattached) :
      StepBody s ((s.emit [.txn 0x1010000#26 s.input.ans]).raise (.transport e))
  | detach (hst : s.st = .idle) :
      StepBody s ({ s.emit [.cmd 0x04#8] with attachOk := false }.succeed .unattached)
  | selectAccept (hst : s.st = .idle) :
      StepBody s { (s.emit [.cmd 0x02#8]).emit [.sample s.sample] with
        retryDelay := Config.hw.shortUs, deadline := s.sample + Config.hw.timeoutUs, st := .selRd }
  | readConnected (b : Byte) (hst : s.st = .selRd) (hans : readResult s.input.ans = .ok b)
      (hclass : classify Config.hw b = .connected) :
      StepBody s ({ s.emit [.txn 0x0010000#26 s.input.ans] with ctlObs := b }.succeed .idle)
  | readRequested (b : Byte) (hst : s.st = .selRd) (hans : readResult s.input.ans = .ok b)
      (hclass : classify Config.hw b = .requested) :
      StepBody s { s.emit [.txn 0x0010000#26 s.input.ans] with
        ctlObs := b, retryDelay := Config.hw.longUs }.sleepEntry
  | readOther (b : Byte) (hst : s.st = .selRd) (hans : readResult s.input.ans = .ok b)
      (hclass : classify Config.hw b = .other) :
      StepBody s { s.emit [.txn 0x0010000#26 s.input.ans] with ctlObs := b, st := .selWr }
  | readFailed (e : ErrPayload) (hst : s.st = .selRd) (hans : readResult s.input.ans = .error e) :
      StepBody s ((s.emit [.txn 0x0010000#26 s.input.ans]).raise (.transport e))
  | requestDone (hst : s.st = .selWr) (hans : writeResult s.input.ans = .ok ()) :
      StepBody s { s.emit [.txn 0x2812514#26 s.input.ans] with retryDelay := Config.hw.shortUs }.sleepEntry
  | requestFailed (e : ErrPayload) (hst : s.st = .selWr) (hans : writeResult s.input.ans = .error e) :
      StepBody s ((s.emit [.txn 0x2812514#26 s.input.ans]).raise (.transport e))
  | sleepHold (hst : s.st = .selSlp) (hwake : s.sample < s.wakeAt) : StepBody s s
  | sleepTimeout (hst : s.st = .selSlp) (hwake : s.wakeAt ≤ s.sample) (hdeadline : s.deadline ≤ s.sample) :
      StepBody s ((s.emit [.sample s.sample]).raise .timeout)
  | sleepPoll (hst : s.st = .selSlp) (hwake : s.wakeAt ≤ s.sample) (hdeadline : s.sample < s.deadline) :
      StepBody s { s.emit [.sample s.sample] with st := .selRd }
  | releaseAccept (hst : s.st = .idle) : StepBody s { s.emit [.cmd 0x03#8] with st := .relWr }
  | releaseDone (hst : s.st = .relWr) (hans : writeResult s.input.ans = .ok ()) :
      StepBody s ((s.emit [.txn 0x1010000#26 s.input.ans]).succeed .idle)
  | releaseFailed (e : ErrPayload) (hst : s.st = .relWr) (hans : writeResult s.input.ans = .error e) :
      StepBody s ((s.emit [.txn 0x1010000#26 s.input.ans]).raise (.transport e))

variable {s t u : State}

theorem execAttach_next_body (h : execAttach s = .next t) : ∃ u, StepBody s u ∧ t = u.advance := by
  unfold execAttach at h
  split at h
  next hst =>
    split at h
    next hcaps => cases h; exact ⟨_, .attachAccept hst hcaps, rfl⟩
    next hcaps => cases h; exact ⟨_, .attachUnsupported hst (Bool.eq_false_iff.mpr hcaps), rfl⟩
  next => cases h

theorem execSelect_next_body {ch : BitVec 4} (h : execSelect ch s = .next t) :
    ∃ u, StepBody s u ∧ t = u.advance := by
  unfold execSelect at h
  split at h
  next hch =>
    obtain rfl := (channelOk_hw ch).mp hch
    split at h
    next hst => cases h; exact ⟨_, .selectAccept hst, rfl⟩
    next => cases h
  next => cases h

theorem execRelease_next_body {ch : BitVec 4} (h : execRelease ch s = .next t) :
    ∃ u, StepBody s u ∧ t = u.advance := by
  unfold execRelease at h
  split at h
  next hch =>
    obtain rfl := (channelOk_hw ch).mp hch
    split at h
    next hst => cases h; exact ⟨_, .releaseAccept hst, rfl⟩
    next => cases h
  next => cases h

theorem execDetach_next_body (h : execDetach s = .next t) : ∃ u, StepBody s u ∧ t = u.advance := by
  unfold execDetach at h
  split at h
  next hst => cases h; exact ⟨_, .detach hst, rfl⟩
  next => cases h

/-- The read phase (R121), by the answer and then by the class of the byte. -/
theorem arbitrateRead_body (hst : s.st = .selRd) : StepBody s (arbitrateRead Config.hw s) := by
  obtain ⟨-, hans, -⟩ | ⟨-, hans, -⟩ := answer_cases s.input.ans
  · rw [arbitrateRead_ok _ _ _ hans]
    obtain ⟨hclass, h⟩ | ⟨hclass, h⟩ | ⟨hclass, h⟩ := arbitrateOn_cases Config.hw (ansRdata s.input.ans)
      { s.emit [.txn (txnRdCtl Config.hw).word s.input.ans] with ctlObs := ansRdata s.input.ans } <;> rw [h]
    · exact .readConnected _ hst hans hclass
    · exact .readRequested _ hst hans hclass
    · exact .readOther _ hst hans hclass
  · rw [arbitrateRead_error _ _ _ hans]
    exact .readFailed _ hst hans

/-- The request phase (R122), by the answer. -/
theorem arbitrateRequest_body (hst : s.st = .selWr) : StepBody s (arbitrateRequest Config.hw s) := by
  obtain ⟨-, -, hans⟩ | ⟨-, -, hans⟩ := answer_cases s.input.ans
  · rw [arbitrateRequest_ok _ _ hans]
    exact .requestDone hst hans
  · rw [arbitrateRequest_error _ _ _ hans]
    exact .requestFailed _ hst hans

/-- The release write of RELEASE (R161), by the answer. -/
theorem releaseWrite_body (hst : s.st = .relWr) : StepBody s (releaseWrite Config.hw s) := by
  obtain ⟨-, -, hans⟩ | ⟨-, -, hans⟩ := answer_cases s.input.ans
  · rw [releaseWrite_ok _ _ hans]
    exact .releaseDone hst hans
  · rw [releaseWrite_error _ _ _ hans]
    exact .releaseFailed _ hst hans

/-- The release write of ATTACH (R171), by the answer and, after a failure, by the policy. -/
theorem attachReset_body (hst : s.st = .attWr) : StepBody s (attachReset Config.hw s) := by
  obtain ⟨-, -, hans⟩ | ⟨-, -, hans⟩ := answer_cases s.input.ans
  · rw [attachReset_ok _ _ hans]
    exact .attachDone hst (.inl hans)
  · obtain ⟨hpolicy, h⟩ | ⟨hpolicy, h⟩ := attachReset_error_cases Config.hw _ _ hans <;> rw [h]
    · exact .attachFailed _ hst hans hpolicy
    · exact .attachDone hst (.inr hpolicy)

theorem exec_next_body {i : Instr} (h : exec i s = .next t) : ∃ u, StepBody s u ∧ t = u.advance := by
  cases i with
  | attach => exact execAttach_next_body h
  | select ch => exact execSelect_next_body h
  | release ch => exact execRelease_next_body h
  | detach => exact execDetach_next_body h
  | rdCtl =>
    simp only [exec, execRdCtl] at h
    split at h
    next hst => cases h; exact ⟨_, arbitrateRead_body hst, rfl⟩
    next => cases h
  | wrbReq =>
    simp only [exec, execWrbReq] at h
    split at h
    next hst => cases h; exact ⟨_, arbitrateRequest_body hst, rfl⟩
    next => cases h
  | wrRel =>
    simp only [exec, execWrRel] at h
    split at h
    next hst => cases h; exact ⟨_, releaseWrite_body hst, rfl⟩
    next hst => cases h; exact ⟨_, attachReset_body hst, rfl⟩
    next => cases h

/-- The SEL_SLP step (R144), by the sample against `wake_at` and the deadline. -/
theorem sleepStep_body (hst : s.st = .selSlp) : ∃ u, StepBody s u ∧ sleepStep s = u.advance := by
  obtain ⟨hwake, h⟩ | ⟨hwake, hdeadline, h⟩ | ⟨hwake, hdeadline, h⟩ := sleepStep_cases s
  · exact ⟨_, .sleepHold hst hwake, h⟩
  · exact ⟨_, .sleepTimeout hst hwake hdeadline, h⟩
  · exact ⟨_, .sleepPoll hst hwake hdeadline, h⟩

theorem fetchCommand_ne_sleep : fetchCommand s ≠ .sleep := by
  unfold fetchCommand
  split
  · simp
  · split <;> simp

theorem fetchBusy_eq_of_not_refuse {f g : Fetch} (h : fetchBusy s f = g) (hg : ∀ r, g ≠ .refuse r) : f = g := by
  unfold fetchBusy at h
  split at h
  · exact h
  · exact absurd h.symm (hg _)

theorem st_of_fetch_sleep (h : fetch s = .sleep) : s.st = .selSlp := by
  cases hst : s.st with
  | selSlp => rfl
  | unattached | idle =>
    rw [fetch, hst] at h
    exact absurd h fetchCommand_ne_sleep
  | attWr | selRd | selWr | relWr =>
    rw [fetch, hst] at h
    cases fetchBusy_eq_of_not_refuse h (by simp)

theorem st_of_fetch_wait (h : fetch s = .wait) : s.st = .unattached ∨ s.st = .idle := by
  cases hst : s.st with
  | unattached => exact .inl rfl
  | idle => exact .inr rfl
  | attWr | selRd | selWr | selSlp | relWr =>
    rw [fetch, hst] at h
    cases fetchBusy_eq_of_not_refuse h (by simp)

/-- Every step is one of the outcomes of `StepBody`, and then the environment moves on. -/
theorem step_next_body (h : step s = .next t) : ∃ u, StepBody s u ∧ t = u.advance := by
  obtain ⟨i, -, hexec⟩ | ⟨hfetch, rfl⟩ | ⟨hfetch, rfl⟩ := step_next_cases h
  · exact exec_next_body hexec
  · exact sleepStep_body (st_of_fetch_sleep hfetch)
  · exact ⟨s, .wait (st_of_fetch_wait hfetch), rfl⟩

/-! ## Clock samples -/

/-- A change of registers or port history does not move the sample: it reads only `env`, `now` and `tick`. -/
@[simp] theorem State.sample_of_registers (s : State) (st : SeqState) (delay deadline wakeAt : Nat) (obs : Byte)
    (attached : Bool) (tr : List Event) :
    State.sample ⟨st, delay, deadline, wakeAt, obs, attached, s.env, s.now, tr, s.tick⟩ = s.sample := rfl

/-- The step's own sample is not moved by what the step does. -/
theorem StepBody.sample_eq (h : StepBody s u) : u.sample = s.sample := by
  cases h <;> rfl

/-- A step takes the current sample, or none. -/
theorem StepBody.samplesIn_cases (h : StepBody s u) :
    samplesIn u.trace = samplesIn s.trace ∨ samplesIn u.trace = samplesIn s.trace ++ [s.sample] := by
  cases h with
  | selectAccept | readRequested | requestDone | sleepTimeout | sleepPoll => right; simp
  | _ => left; simp

/-- A later CLOCK leaves the samples ordered when none is added. -/
theorem SamplesOrdered.of_samplesIn_eq (hs : SamplesOrdered s) (htr : samplesIn t.trace = samplesIn s.trace)
    (hnow : s.now ≤ t.now) : SamplesOrdered t :=
  ⟨htr ▸ hs.sorted, fun x hx => (hs.past x (htr ▸ hx)).trans hnow⟩

/-- CLOCK's own time can be added at the end of the samples. -/
theorem SamplesOrdered.of_samplesIn_append (hs : SamplesOrdered s)
    (htr : samplesIn t.trace = samplesIn s.trace ++ [t.now]) (hnow : s.now ≤ t.now) : SamplesOrdered t := by
  have hpast : ∀ x ∈ samplesIn s.trace, x ≤ t.now := fun x hx => (hs.past x hx).trans hnow
  constructor
  · rw [htr, List.pairwise_append]
    exact ⟨hs.sorted, List.pairwise_singleton _ _, by simpa using hpast⟩
  · rw [htr]
    simpa [or_imp, forall_and] using hpast

end Sys2Proof.Machine

/-! ## The statements -/

namespace Sys2Proof.Machine

/-- Settles O9: each constant is a closed term of this hardware's parameters, none of which rests on the OPEN policy. -/
theorem derivedConstants : Obligations.DerivedConstants := by
  unfold Obligations.DerivedConstants
  decide

/-- Settles O10: a flag is set in a union of masks exactly if it is the flag of one of them. -/
theorem requestSetsExactlyThreeFlags : Obligations.RequestSetsExactlyThreeFlags :=
  fun p f hp => ⟨ctlBit_reqValue hp f, ctlBit_releaseValue p f⟩

/-- Settles O50: a step adds the current sample or none, and the current sample is CLOCK's time after the step. -/
theorem stepKeepsSamplesOrdered : Obligations.StepKeepsSamplesOrdered := by
  intro s t hs hstep
  obtain ⟨u, hbody, rfl⟩ := step_next_body hstep
  have hnow : u.advance.now = s.sample := hbody.sample_eq
  have hle : s.now ≤ u.advance.now := hnow ▸ State.now_le_sample s
  obtain htr | htr := hbody.samplesIn_cases
  · exact hs.of_samplesIn_eq htr hle
  · exact hs.of_samplesIn_append (hnow ▸ htr) hle

/-- Settles O58: the words' fields are read back at every width, and this hardware's words are those of width 8 by definition. -/
theorem errorWordsAtEveryPayloadWidth : Obligations.ErrorWordsAtEveryPayloadWidth := by
  refine ⟨fun w e c => ⟨?payload, ?zeros, ?code⟩, fun w e ok b => ⟨?ok, ?rdata, ?err, ?carried⟩,
    fun a c e => ⟨rfl, rfl, rfl, rfl⟩⟩
  case payload => exact respPayload_respWordOf e c
  case zeros => exact respWordOf_middle e c
  case code => exact respCodeBits_respWordOf e c
  case ok => exact ansOkOf_ansWordOf ok b e
  case rdata => exact ansRdataOf_ansWordOf ok b e
  case err => exact ansErrOf_ansWordOf ok b e
  case carried => rw [ansErrOf_ansWordOf, respPayload_respWordOf]

end Sys2Proof.Machine
end

section
/-! PROOFS. What decides a step: the command port and the state, in both directions (R22, R40, R85). -/

namespace Sys2Proof.Machine

variable {s t u : State}

/-! ## The instruction behind an accepted command word -/

/-- A word with a clear reserved bit is rebuilt from its channel and its code. -/
theorem cmdWord_of_op {w : CmdWord} {n : Nat} (hop : (cmdOp w).toNat = n) (hrsv : ¬ cmdRsv w = 1#1) :
    cmdWord (cmdCh w) (BitVec.ofNat 3 n) = w := by
  have hbit : ∀ r : BitVec 1, ¬ r = 1#1 → r = 0#1 := by decide
  rw [← hop, BitVec.ofNat_toNat, BitVec.setWidth_eq]
  exact cmdWord_of_fields w (hbit _ hrsv)

/-- A decoder branch that answers an instruction has passed both of its checks. -/
theorem of_checked_eq_ok {c d : Prop} [Decidable c] [Decidable d] {e e' : DecodeError} {i j : Instr}
    (h : (if c then .error e else if d then .ok i else .error e') = Except.ok j) : ¬ c ∧ d ∧ i = j := by
  split at h
  · cases h
  · split at h <;> cases h
    exact ⟨‹_›, ‹_›, rfl⟩

/-- A command word that decodes is the word of the instruction it decodes to. -/
theorem encodeWith_of_decodeCmdWith {p : Config.Params} {w : CmdWord} {i : Instr} (h : decodeCmdWith p w = .ok i) :
    encodeWith p i = .cmd w := by
  unfold decodeCmdWith at h
  split at h
  next hop =>
    obtain ⟨hrsv, hch, rfl⟩ := of_checked_eq_ok h
    exact congrArg PortWord.cmd (hch ▸ cmdWord_of_op hop hrsv)
  next hop =>
    obtain ⟨hrsv, -, rfl⟩ := of_checked_eq_ok h
    exact congrArg PortWord.cmd (cmdWord_of_op hop hrsv)
  next hop =>
    obtain ⟨hrsv, -, rfl⟩ := of_checked_eq_ok h
    exact congrArg PortWord.cmd (cmdWord_of_op hop hrsv)
  next hop =>
    obtain ⟨hrsv, hch, rfl⟩ := of_checked_eq_ok h
    exact congrArg PortWord.cmd (hch ▸ cmdWord_of_op hop hrsv)
  next => cases h

/-- The meaning of a command passes its word, once, and no other command. -/
theorem exec_command_passes_its_word {i : Instr} {w : CmdWord} (henc : encode i = .cmd w) (h : exec i s = .next t) :
    commandsIn (newEvents s t) = [w] := by
  suffices hacc : commandsIn (newEvents s t) = commandsIn (newEvents s (s.acceptWord i)) by
    simpa [newEvents, State.acceptWord, henc] using hacc
  cases i with
  | attach =>
    simp only [exec, execAttach] at h
    split at h
    · split at h <;> cases h <;> simp [newEvents]
    · cases h
  | select ch =>
    simp only [exec, execSelect] at h
    split at h
    · split at h <;> cases h; simp [newEvents]
    · cases h
  | release ch =>
    simp only [exec, execRelease] at h
    split at h
    · split at h <;> cases h; simp [newEvents]
    · cases h
  | detach =>
    simp only [exec, execDetach] at h
    split at h <;> cases h; simp [newEvents]
  | rdCtl | wrbReq | wrRel => cases henc

/-- Commands are accepted in the waiting states only. -/
theorem StepBody.commandsIn_eq_nil_of_busy (h : StepBody s u) (hbusy : s.st.busy = true) :
    commandsIn (newEvents s u) = [] := by
  cases h with
  | attachAccept hst | attachUnsupported hst | detach hst | selectAccept hst | releaseAccept hst =>
    simp [hst, SeqState.busy] at hbusy
  | _ => simp [newEvents]

/-! ## The command port decides which waiting step is taken -/

theorem step_of_fetch_run {i : Instr} (h : fetch s = .run i) : step s = exec i s := by
  rw [step, h]

theorem fetch_of_command {w : CmdWord} {i : Instr} (hst : s.st = .unattached ∨ s.st = .idle)
    (hcmd : s.input.cmd = some w) (hdec : decode (.cmd w) = .ok i) : fetch s = .run i := by
  obtain hst | hst := hst <;> simp [fetch, hst, fetchCommand, hcmd, hdec]

theorem step_of_decoded_command {w : CmdWord} {i : Instr} (hst : s.st = .unattached ∨ s.st = .idle)
    (hcmd : s.input.cmd = some w) (hdec : decode (.cmd w) = .ok i) : step s = exec i s :=
  step_of_fetch_run (fetch_of_command hst hcmd hdec)

theorem step_of_waiting_no_command (hst : s.st = .unattached ∨ s.st = .idle) (hcmd : s.input.cmd = none) :
    step s = .next s.advance := by
  obtain hst | hst := hst <;> simp [step, fetch, hst, fetchCommand, hcmd]

/-- A command that a waiting ARBC takes a step with is run. -/
theorem step_of_command {w : CmdWord} (hst : s.st = .unattached ∨ s.st = .idle) (hcmd : s.input.cmd = some w)
    (h : step s = .next t) : ∃ i, encode i = .cmd w ∧ exec i s = .next t := by
  have hfetch : fetch s = fetchCommand s := by obtain hst | hst := hst <;> rw [fetch, hst]
  rw [step, hfetch, fetchCommand, hcmd] at h
  simp only at h
  cases hdec : decode (.cmd w) with
  | ok i => exact ⟨i, encodeWith_of_decodeCmdWith hdec, by simpa [hdec] using h⟩
  | error e => simp [hdec] at h

/-- A busy ARBC takes a step only when no command is presented (R207). -/
theorem no_command_of_busy_step (hst : s.st.busy = true) (h : step s = .next t) : s.input.cmd = none := by
  cases hcmd : s.input.cmd with
  | none => rfl
  | some w =>
    cases hs : s.st <;> simp [hs, SeqState.busy, step, fetch, fetchBusy, hcmd] at hst h

/-- A step that answers a next state has accepted the command that was presented, if there was one, and no other. -/
theorem commandsIn_step (h : step s = .next t) : commandsIn (newEvents s t) = s.input.cmd.toList := by
  cases hbusy : s.st.busy with
  | true =>
    obtain ⟨u, hbody, rfl⟩ := step_next_body h
    rw [no_command_of_busy_step hbusy h]
    exact hbody.commandsIn_eq_nil_of_busy hbusy
  | false =>
    have hst : s.st = .unattached ∨ s.st = .idle := by
      cases hs : s.st <;> simp [hs, SeqState.busy] at hbusy ⊢
    cases hcmd : s.input.cmd with
    | none =>
      cases (step_of_waiting_no_command hst hcmd).symm.trans h
      simp [newEvents]
    | some w =>
      obtain ⟨i, henc, hexec⟩ := step_of_command hst hcmd h
      exact exec_command_passes_its_word henc hexec

/-! ## Busy states take their own step -/

theorem fetch_of_attWr (hst : s.st = .attWr) (hcmd : s.input.cmd = none) : fetch s = .run .wrRel := by
  rw [fetch, hst]
  exact fetchBusy_eq_run hcmd

theorem step_of_attWr (hst : s.st = .attWr) (hcmd : s.input.cmd = none) :
    step s = .next (attachReset Config.hw s).advance := by
  simp [step_of_fetch_run (fetch_of_attWr hst hcmd), exec, execWrRel, hst]

theorem fetch_of_relWr (hst : s.st = .relWr) (hcmd : s.input.cmd = none) : fetch s = .run .wrRel := by
  rw [fetch, hst]
  exact fetchBusy_eq_run hcmd

theorem step_of_relWr (hst : s.st = .relWr) (hcmd : s.input.cmd = none) :
    step s = .next (releaseWrite Config.hw s).advance := by
  simp [step_of_fetch_run (fetch_of_relWr hst hcmd), exec, execWrRel, hst]

theorem fetch_of_selRd (hst : s.st = .selRd) (hcmd : s.input.cmd = none) : fetch s = .run .rdCtl := by
  rw [fetch, hst]
  exact fetchBusy_eq_run hcmd

theorem step_of_selRd (hst : s.st = .selRd) (hcmd : s.input.cmd = none) :
    step s = .next (arbitrateRead Config.hw s).advance := by
  simp [step_of_fetch_run (fetch_of_selRd hst hcmd), exec, execRdCtl, hst]

theorem fetch_of_selWr (hst : s.st = .selWr) (hcmd : s.input.cmd = none) : fetch s = .run .wrbReq := by
  rw [fetch, hst]
  exact fetchBusy_eq_run hcmd

theorem step_of_selWr (hst : s.st = .selWr) (hcmd : s.input.cmd = none) :
    step s = .next (arbitrateRequest Config.hw s).advance := by
  simp [step_of_fetch_run (fetch_of_selWr hst hcmd), exec, execWrbReq, hst]

theorem step_of_selSlp (hst : s.st = .selSlp) (hcmd : s.input.cmd = none) : step s = .next (sleepStep s) := by
  simp [step, fetch, hst, fetchBusy_eq_run hcmd]

/-- The release write of ATTACH attaches when it succeeds, and under `attachAnyway` when it fails (R171). -/
theorem attachReset_eq_attached {p : Config.Params}
    (hdone : writeResult s.input.ans = .ok () ∨ p.attachOnReleaseError = .attachAnyway) :
    attachReset p s = { s.emit [.txn (txnWrRel p).word s.input.ans] with attachOk := true }.succeed .idle := by
  obtain ⟨-, -, hans⟩ | ⟨-, -, hans⟩ := answer_cases s.input.ans
  · exact attachReset_ok _ _ hans
  · obtain ⟨hstay, -⟩ | ⟨-, h⟩ := attachReset_error_cases p _ _ hans
    · simp [hans, hstay] at hdone
    · exact h

/-- Each outcome of `StepBody` is the step of its state when the port presents just the command that the outcome accepts. -/
theorem StepBody.step_eq (h : StepBody s u) (hcmd : commandsIn (newEvents s u) = s.input.cmd.toList) :
    step s = .next u.advance := by
  have hnone : commandsIn (newEvents s u) = [] → s.input.cmd = none := fun h0 => by simpa [h0] using hcmd.symm
  have hsome : ∀ w, commandsIn (newEvents s u) = [w] → s.input.cmd = some w := fun w h1 => by
    simpa [h1] using hcmd.symm
  cases h with
  | wait hst => exact step_of_waiting_no_command hst (hnone (by simp [newEvents]))
  | attachAccept hst hcaps =>
    rw [step_of_decoded_command (.inl hst) (hsome 0x01#8 (by simp [newEvents])) (i := .attach) rfl]
    exact (if_pos hst).trans (if_pos hcaps)
  | attachUnsupported hst hcaps =>
    rw [step_of_decoded_command (.inl hst) (hsome 0x01#8 (by simp [newEvents])) (i := .attach) rfl]
    exact (if_pos hst).trans (if_neg (Bool.eq_false_iff.mp hcaps))
  | selectAccept hst =>
    rw [step_of_decoded_command (.inr hst) (hsome 0x02#8 (by simp [newEvents])) (i := .select 0#4) rfl]
    rw [exec, execSelect, if_pos ((channelOk_hw 0#4).mpr rfl), if_pos hst]
    rfl
  | releaseAccept hst =>
    rw [step_of_decoded_command (.inr hst) (hsome 0x03#8 (by simp [newEvents])) (i := .release 0#4) rfl]
    rw [exec, execRelease, if_pos ((channelOk_hw 0#4).mpr rfl), if_pos hst]
    rfl
  | detach hst =>
    rw [step_of_decoded_command (.inr hst) (hsome 0x04#8 (by simp [newEvents])) (i := .detach) rfl]
    exact if_pos hst
  | attachDone hst hdone =>
    rw [step_of_attWr hst (hnone (by simp [newEvents])), attachReset_eq_attached hdone]; rfl
  | attachFailed e hst hans hpolicy =>
    rw [step_of_attWr hst (hnone (by simp [newEvents]))]
    obtain ⟨-, h⟩ | ⟨hany, -⟩ := attachReset_error_cases Config.hw _ _ hans
    · rw [h]; rfl
    · simp [hany] at hpolicy
  | readFailed e hst hans =>
    rw [step_of_selRd hst (hnone (by simp [newEvents])), arbitrateRead_error _ _ _ hans]; rfl
  | readConnected b hst hans hclass | readRequested b hst hans hclass | readOther b hst hans hclass =>
    rw [step_of_selRd hst (hnone (by simp [newEvents])), arbitrateRead_ok _ _ _ hans, arbitrateOn, hclass]; rfl
  | requestDone hst hans =>
    rw [step_of_selWr hst (hnone (by simp [newEvents])), arbitrateRequest_ok _ _ hans]; rfl
  | requestFailed e hst hans =>
    rw [step_of_selWr hst (hnone (by simp [newEvents])), arbitrateRequest_error _ _ _ hans]; rfl
  | releaseDone hst hans =>
    rw [step_of_relWr hst (hnone (by simp [newEvents])), releaseWrite_ok _ _ hans]; rfl
  | releaseFailed e hst hans =>
    rw [step_of_relWr hst (hnone (by simp [newEvents])), releaseWrite_error _ _ _ hans]; rfl
  | sleepHold hst hwake =>
    rw [step_of_selSlp hst (hnone (by simp [newEvents])), sleepStep, if_neg (Nat.not_le.mpr hwake)]
  | sleepTimeout hst hwake hdeadline =>
    rw [step_of_selSlp hst (hnone (by simp [newEvents])), sleepStep, if_pos hwake, if_pos hdeadline]
  | sleepPoll hst hwake hdeadline =>
    rw [step_of_selSlp hst (hnone (by simp [newEvents])), sleepStep, if_pos hwake, if_neg (Nat.not_le.mpr hdeadline)]

/-- The next states of `step` are exactly the outcomes of `StepBody` that accept what the command port presents. -/
theorem step_next_iff :
    step s = .next t ↔
      ∃ u, StepBody s u ∧ commandsIn (newEvents s u) = s.input.cmd.toList ∧ t = u.advance := by
  constructor
  · intro h
    obtain ⟨u, hbody, rfl⟩ := step_next_body h
    have hcmd := commandsIn_step h
    exact ⟨u, hbody, hcmd, rfl⟩
  · rintro ⟨u, hbody, hcmd, rfl⟩
    exact hbody.step_eq hcmd

end Sys2Proof.Machine
end

section
/-! PROOFS. What a step passes on the ports, what it keeps of the registers, and what it never reads (R20 to R27). -/

namespace Sys2Proof.Machine

variable {s t u v : State}

/-! ## Errors -/

@[simp] theorem raiseTarget_unsupported (st : SeqState) : raiseTarget .unsupported st = .unattached := by
  cases st <;> rfl

@[simp] theorem raiseTarget_timeout (st : SeqState) : raiseTarget .timeout st = .idle := by
  cases st <;> rfl

@[simp] theorem raiseTarget_transport (e : ErrPayload) (st : SeqState) :
    raiseTarget (.transport e) st = if st = .attWr then .unattached else .idle := by
  cases st <;> rfl

@[simp] theorem ArbcError.word_unsupported : ArbcError.unsupported.word = respWord .unsupported 0x00#8 := rfl

@[simp] theorem ArbcError.word_timeout : ArbcError.timeout.word = respWord .timeout 0x00#8 := rfl

@[simp] theorem ArbcError.word_transport (e : ErrPayload) : (ArbcError.transport e).word = respWord .transport e := rfl

/-! ## Events of a step -/

@[simp] theorem newEvents_advance : newEvents s t.advance = newEvents s t := rfl

/-- The ports' history only grows, by the step's own events. -/
theorem StepBody.trace_eq (h : StepBody s u) : u.trace = s.trace ++ newEvents s u := by
  cases h <;> simp [newEvents]

/-- The transaction words that a step issues, by the state it starts in (R21, R105 to R107). -/
def SeqState.issues : SeqState → List TxnWord
  | .unattached => []
  | .idle => []
  | .attWr => [0x1010000#26]
  | .selRd => [0x0010000#26]
  | .selWr => [0x2812514#26]
  | .selSlp => []
  | .relWr => [0x1010000#26]

theorem StepBody.transactionsIn_eq (h : StepBody s u) : transactionsIn (newEvents s u) = s.st.issues := by
  cases h with
  | wait hst => obtain hst | hst := hst <;> simp [newEvents, hst, SeqState.issues]
  | _ => simp [newEvents, *, SeqState.issues]

/-- The commands owed before a step and accepted in it are those answered in it and owed after it. -/
theorem StepBody.commands_balance_responses (h : StepBody s u) :
    (commandsIn (newEvents s u)).length + (if s.st.busy then 1 else 0) =
      (responsesIn (newEvents s u)).length + if u.st.busy then 1 else 0 := by
  cases h with
  | wait | sleepHold => simp [newEvents]
  | _ => simp [newEvents, *, SeqState.busy]

theorem StepBody.oneResponsePerCommand (h : StepBody s u) (hs : OneResponsePerCommand s) : OneResponsePerCommand u := by
  have hstep := h.commands_balance_responses
  unfold OneResponsePerCommand at hs ⊢
  rw [h.trace_eq, commandsIn_append, responsesIn_append, List.length_append, List.length_append]
  omega

/-- A step that runs instruction `i` issues its word, when that is the word of the state it starts in. -/
theorem transaction_run {i : Instr} {w : TxnWord} (hstep : step s = .next t) (hfetch : fetch s = .run i)
    (henc : encode i = .txn w) (hdec : decode (.txn w) = .ok i) (hissues : s.st.issues = [w]) :
    step s = exec i s ∧ decode (encode i) = .ok i ∧
      ∃ t w, step s = .next t ∧ encode i = .txn w ∧ transactionsIn (newEvents s t) = [w] := by
  obtain ⟨u, hbody, rfl⟩ := step_next_body hstep
  exact ⟨step_of_fetch_run hfetch, henc ▸ hdec, _, w, hstep, henc, hbody.transactionsIn_eq.trans hissues⟩

/-! ## Registers -/

/-- `attach_ok` is 1 exactly where ARBC is attached: only a finished ATTACH and a DETACH move it, with `st`. -/
theorem StepBody.attachOk_iff (h : StepBody s u) (hinv : s.attachOk = true ↔ s.st ≠ .unattached ∧ s.st ≠ .attWr) :
    u.attachOk = true ↔ u.st ≠ .unattached ∧ u.st ≠ .attWr := by
  cases h with
  | wait | sleepHold => exact hinv
  | attachDone | detach => simp
  | _ => simp [*]

theorem StepBody.retryDelay_cases (h : StepBody s u) :
    u.retryDelay = s.retryDelay ∨ u.retryDelay = Config.hw.shortUs ∨ u.retryDelay = Config.hw.longUs := by
  cases h with
  | selectAccept | requestDone => exact .inr (.inl rfl)
  | readRequested => exact .inr (.inr rfl)
  | _ => exact .inl rfl

/-- A SELECT that runs after the step ran before it with the same deadline, or was accepted in it. -/
theorem StepBody.deadline_cases (h : StepBody s u) (hu : u.st.inSelect = true) :
    s.st.inSelect = true ∧ u.deadline = s.deadline ∨ u.deadline = s.sample + Config.hw.timeoutUs := by
  cases h with
  | selectAccept => exact .inr rfl
  | wait | sleepHold => exact .inl ⟨hu, rfl⟩
  | readRequested _ hst | readOther _ hst | requestDone hst | sleepPoll hst => exact .inl ⟨by rw [hst]; rfl, rfl⟩
  | _ => simp [*, SeqState.inSelect] at hu

/-- ARBC sleeps after the step because it slept on, or because the step set `wake_at` from its own sample. -/
theorem StepBody.wakeAt_cases (h : StepBody s u) (hu : u.st = .selSlp) :
    s.st = .selSlp ∧ u = s ∨ u.wakeAt = s.sample + u.retryDelay := by
  cases h with
  | readRequested | requestDone => exact .inr rfl
  | wait | sleepHold => exact .inl ⟨hu, rfl⟩
  | _ => simp [*] at hu

/-- The register invariant is kept: CLOCK's time after the step is the step's own sample. -/
theorem StepBody.registerInv (h : StepBody s u) (hs : RegisterInv s) : RegisterInv u.advance where
  attached := h.attachOk_iff hs.attached
  delay := h.retryDelay_cases.elim (fun hsame => hsame ▸ hs.delay) id
  window hsel := by
    have hnow : u.advance.now = s.sample := h.sample_eq
    have hle := s.now_le_sample
    rw [hnow, State.advance_deadline]
    obtain ⟨hsel', heq⟩ | heq := h.deadline_cases hsel
    · have := hs.window hsel'
      omega
    · omega
  sleeping hslp := by
    have hnow : u.advance.now = s.sample := h.sample_eq
    have hle := s.now_le_sample
    rw [hnow, State.advance_wakeAt, State.advance_retryDelay]
    obtain ⟨hslp', rfl⟩ | heq := h.wakeAt_cases hslp
    · have := hs.sleeping hslp'
      omega
    · omega

/-! ## The fields that no step reads -/

/-- `s` with other values in `retry_delay`, `ctl_obs` and the ports' history. -/
def State.withUnread (s : State) (delay : Nat) (obs : Byte) (tr : List Event) : State :=
  { s with retryDelay := delay, ctlObs := obs, trace := tr }

section

variable (s : State) (d : Nat) (b : Byte) (tr : List Event)

@[simp] theorem State.withUnread_st : (s.withUnread d b tr).st = s.st := rfl
@[simp] theorem State.withUnread_retryDelay : (s.withUnread d b tr).retryDelay = d := rfl
@[simp] theorem State.withUnread_deadline : (s.withUnread d b tr).deadline = s.deadline := rfl
@[simp] theorem State.withUnread_wakeAt : (s.withUnread d b tr).wakeAt = s.wakeAt := rfl
@[simp] theorem State.withUnread_ctlObs : (s.withUnread d b tr).ctlObs = b := rfl
@[simp] theorem State.withUnread_attachOk : (s.withUnread d b tr).attachOk = s.attachOk := rfl
@[simp] theorem State.withUnread_env : (s.withUnread d b tr).env = s.env := rfl
@[simp] theorem State.withUnread_now : (s.withUnread d b tr).now = s.now := rfl
@[simp] theorem State.withUnread_trace : (s.withUnread d b tr).trace = tr := rfl
@[simp] theorem State.withUnread_tick : (s.withUnread d b tr).tick = s.tick := rfl
@[simp] theorem State.withUnread_input : (s.withUnread d b tr).input = s.input := rfl
@[simp] theorem State.withUnread_sample : (s.withUnread d b tr).sample = s.sample := rfl

end

/-- The outcomes `u` from `s` and `v` from `s'` differ in unread fields only: the same events pass, and `ctl_obs` and
`retry_delay` are the same if they were so before. On entry to SEL_SLP from SEL_RD or SEL_WR `retry_delay` is the same whatever it
was (R23). -/
structure SameButUnread (s u s' v : State) : Prop where
  st : v.st = u.st
  deadline : v.deadline = u.deadline
  wakeAt : v.wakeAt = u.wakeAt
  attachOk : v.attachOk = u.attachOk
  env : v.env = u.env
  now : v.now = u.now
  tick : v.tick = u.tick
  trace : v.trace = s'.trace ++ newEvents s u
  ctlObs : s'.ctlObs = s.ctlObs → v.ctlObs = u.ctlObs
  retryDelay : s'.retryDelay = s.retryDelay ∨ (s.st = .selRd ∨ s.st = .selWr) ∧ u.st = .selSlp →
    v.retryDelay = u.retryDelay

theorem SameButUnread.eq_withUnread {s' : State} (h : SameButUnread s u s' v) :
    v = u.withUnread v.retryDelay v.ctlObs (s'.trace ++ newEvents s u) := by
  obtain ⟨hst, hdeadline, hwakeAt, hattachOk, henv, hnow, htick, htrace, -, -⟩ := h
  cases v
  simp_all [State.withUnread]

/-- The same outcome is possible from other unread values: its conditions do not read them. -/
theorem StepBody.withUnread (h : StepBody s u) (d : Nat) (b : Byte) (tr : List Event) :
    ∃ v, StepBody (s.withUnread d b tr) v ∧ SameButUnread s u (s.withUnread d b tr) v := by
  cases h with
  | wait hst =>
    refine ⟨_, .wait hst, ?_⟩
    obtain hst | hst := hst <;> constructor <;> simp [hst, newEvents]
  | attachAccept hst hcaps => exact ⟨_, .attachAccept hst hcaps, by constructor <;> simp [newEvents]⟩
  | attachUnsupported hst hcaps => exact ⟨_, .attachUnsupported hst hcaps, by constructor <;> simp [newEvents]⟩
  | attachDone hst hdone => exact ⟨_, .attachDone hst hdone, by constructor <;> simp [newEvents]⟩
  | attachFailed e hst hans hpolicy =>
    exact ⟨_, .attachFailed e hst hans hpolicy, by constructor <;> simp [newEvents, hst]⟩
  | detach hst => exact ⟨_, .detach hst, by constructor <;> simp [newEvents]⟩
  | selectAccept hst => exact ⟨_, .selectAccept hst, by constructor <;> simp [newEvents]⟩
  | readConnected c hst hans hclass =>
    exact ⟨_, .readConnected c hst hans hclass, by constructor <;> simp [newEvents]⟩
  | readRequested c hst hans hclass =>
    exact ⟨_, .readRequested c hst hans hclass, by constructor <;> simp [newEvents]⟩
  | readOther c hst hans hclass => exact ⟨_, .readOther c hst hans hclass, by constructor <;> simp [newEvents]⟩
  | readFailed e hst hans => exact ⟨_, .readFailed e hst hans, by constructor <;> simp [newEvents, hst]⟩
  | requestDone hst hans => exact ⟨_, .requestDone hst hans, by constructor <;> simp [newEvents]⟩
  | requestFailed e hst hans => exact ⟨_, .requestFailed e hst hans, by constructor <;> simp [newEvents, hst]⟩
  | sleepHold hst hwake => exact ⟨_, .sleepHold hst hwake, by constructor <;> simp [newEvents, hst]⟩
  | sleepTimeout hst hwake hdeadline =>
    exact ⟨_, .sleepTimeout hst hwake hdeadline, by constructor <;> simp [newEvents]⟩
  | sleepPoll hst hwake hdeadline => exact ⟨_, .sleepPoll hst hwake hdeadline, by constructor <;> simp [newEvents]⟩
  | releaseAccept hst => exact ⟨_, .releaseAccept hst, by constructor <;> simp [newEvents]⟩
  | releaseDone hst hans => exact ⟨_, .releaseDone hst hans, by constructor <;> simp [newEvents]⟩
  | releaseFailed e hst hans => exact ⟨_, .releaseFailed e hst hans, by constructor <;> simp [newEvents, hst]⟩

/-- A step from other values in the unread fields answers the same next state but for these fields. -/
theorem step_withUnread (h : step s = .next t) (d : Nat) (b : Byte) (tr : List Event) :
    ∃ d' b', step (s.withUnread d b tr) = .next (t.withUnread d' b' (tr ++ newEvents s t)) ∧
      (b = s.ctlObs → b' = t.ctlObs) ∧
      (d = s.retryDelay ∨ (s.st = .selRd ∨ s.st = .selWr) ∧ t.st = .selSlp → d' = t.retryDelay) := by
  obtain ⟨u, hbody, hcmd, rfl⟩ := step_next_iff.mp h
  obtain ⟨v, hbody', hsame⟩ := hbody.withUnread d b tr
  have hevents : newEvents (s.withUnread d b tr) v = newEvents s u := newEvents_of_append hsame.trace
  have hstep := hbody'.step_eq (hevents ▸ hcmd)
  rw [hsame.eq_withUnread] at hstep
  exact ⟨v.retryDelay, v.ctlObs, hstep, hsame.ctlObs, hsame.retryDelay⟩

theorem step_trace_eq (h : step s = .next t) : t.trace = s.trace ++ newEvents s t := by
  obtain ⟨u, hbody, rfl⟩ := step_next_body h
  exact hbody.trace_eq

/-- Put back, the unread values of a next state give that state. -/
theorem withUnread_self (h : step s = .next t) :
    t.withUnread t.retryDelay t.ctlObs (s.trace ++ newEvents s t) = t := by
  rw [← step_trace_eq h]
  rfl

end Sys2Proof.Machine
end

section
/-! PROOFS. The classes of a CONTROL byte (R29 to R32). -/

namespace Sys2Proof.Machine

variable {p : Config.Params} {b : Byte}

theorem getLsbD_ctlMask (p : Config.Params) (f : Config.CtlField) {i : Nat} (hi : i < 8) :
    (ctlMask p f).getLsbD i = decide (i = (p.ctlBits f).val) := by
  have hone : ∀ i j : Fin 8, (1#8 <<< j.val).getLsbD i.val = decide (i.val = j.val) := by decide
  exact hone ⟨i, hi⟩ (p.ctlBits f)

/-- A byte under a mask is compared bit by bit. -/
theorem byte_and_eq_iff (b m v : Byte) : b &&& m = v ↔ ∀ i < 8, (b.getLsbD i && m.getLsbD i) = v.getLsbD i := by
  constructor
  · rintro rfl i -
    exact BitVec.getLsbD_and.symm
  · intro h
    exact BitVec.eq_of_getLsbD_eq fun i hi => BitVec.getLsbD_and.trans (h i hi)

/-- The flags of a byte under a mask are those of both. -/
theorem ctlBit_and (p : Config.Params) (f : Config.CtlField) (a b : Byte) :
    ctlBit p f (a &&& b) = (ctlBit p f a && ctlBit p f b) := BitVec.getLsbD_and

/-- `connected` reads the three arbitration flags, whatever the layout (R30). -/
theorem connected_iff (p : Config.Params) (b : Byte) :
    connected p b = true ↔
      ctlBit p .lockReq b = true ∧ ctlBit p .lockGrant b = true ∧ ctlBit p .busConnect b = true := by
  simp +contextual only [connected, beq_iff_eq, byte_and_eq_iff, arbMask, BitVec.getLsbD_or, getLsbD_ctlMask, ctlBit]
  constructor
  · intro h
    refine ⟨?_, ?_, ?_⟩
    · simpa using h _ (p.ctlBits .lockReq).isLt
    · simpa using h _ (p.ctlBits .lockGrant).isLt
    · simpa using h _ (p.ctlBits .busConnect).isLt
  · rintro ⟨hreq, hgrant, hconnect⟩ i -
    grind

/-- Under the default mask `requested` reads the same three flags (R31). -/
theorem requested_iff (hp : Function.Injective p.ctlBits) (hmask : p.requestedMask = arbMask p) (b : Byte) :
    requested p b = true ↔
      ctlBit p .lockReq b = true ∧ ctlBit p .lockGrant b = false ∧ ctlBit p .busConnect b = false := by
  have hne : ∀ f g, f ≠ g → (p.ctlBits f).val ≠ p.ctlBits g := fun f g hfg h => hfg (hp (Fin.ext h))
  simp +contextual only [requested, beq_iff_eq, byte_and_eq_iff, hmask, arbMask, BitVec.getLsbD_or, getLsbD_ctlMask, ctlBit]
  constructor
  · intro h
    refine ⟨?_, ?_, ?_⟩
    · simpa using h _ (p.ctlBits .lockReq).isLt
    · simpa [hne] using h _ (p.ctlBits .lockGrant).isLt
    · simpa [hne] using h _ (p.ctlBits .busConnect).isLt
  · rintro ⟨hreq, hgrant, hconnect⟩ i -
    grind

/-- Under a mask that has LOCK_GRANT, a requested byte has that flag clear. -/
theorem lockGrant_of_requested (hp : Function.Injective p.ctlBits)
    (hmask : ctlBit p .lockGrant p.requestedMask = true) (h : requested p b = true) :
    ctlBit p .lockGrant b = false := by
  have hother : ctlBit p .lockGrant (ctlMask p .lockReq) = false :=
    Bool.eq_false_iff.mpr fun hset => nomatch (ctlBit_ctlMask hp _ _).mp hset
  rwa [← eq_of_beq h, ctlBit_and, hmask, Bool.and_true] at hother

/-- Both masks that D4 names have LOCK_GRANT. -/
theorem lockGrant_requestedMask (hp : Function.Injective p.ctlBits)
    (hmask : p.requestedMask = arbMask p ∨ p.requestedMask = 0xFF#8) :
    ctlBit p .lockGrant p.requestedMask = true := by
  obtain h | h := hmask <;> rw [h]
  · simp [arbMask, (ctlBit_ctlMask hp .lockGrant .lockGrant).mpr rfl]
  · have hall : ∀ i : Fin 8, (0xFF#8).getLsbD i.val = true := by decide
    exact hall _

theorem classify_eq_connected : classify p b = .connected ↔ connected p b = true := by
  cases hconn : connected p b <;> cases hreq : requested p b <;> simp [classify, hconn, hreq]

theorem classify_eq_requested : classify p b = .requested ↔ connected p b = false ∧ requested p b = true := by
  cases hconn : connected p b <;> cases hreq : requested p b <;> simp [classify, hconn, hreq]

theorem classify_eq_other : classify p b = .other ↔ connected p b = false ∧ requested p b = false := by
  cases hconn : connected p b <;> cases hreq : requested p b <;> simp [classify, hconn, hreq]

/-- A mask of the low bits sees the low bits only. -/
theorem and_low_three_bits (b : Byte) : b &&& 7#8 = (b.extractLsb' 0 3).setWidth 8 := by
  apply BitVec.eq_of_toNat_eq
  simp only [BitVec.toNat_and, BitVec.toNat_ofNat, BitVec.toNat_setWidth, BitVec.extractLsb'_toNat, Nat.shiftRight_zero]
  rw [Nat.and_two_pow_sub_one_eq_mod _ 3]
  omega

/-- The class of a byte is that of its three low bits. -/
theorem classify_hw_low_bits (b : Byte) :
    classify Config.hw b = classify Config.hw ((b.extractLsb' 0 3).setWidth 8) := by
  have hmask : Config.hw.requestedMask = 7#8 := rfl
  have harb : arbMask Config.hw = 7#8 := rfl
  have hseven : b &&& 7#8 = (b &&& 7#8) &&& 7#8 := by rw [BitVec.and_assoc, BitVec.and_self]
  rw [← and_low_three_bits]
  simp only [classify, connected, requested, hmask, harb, ← hseven]

/-- A predicate of period 8 holds equally often in each block of eight numbers. -/
theorem length_filter_range_periodic {q : Nat → Bool} (hq : ∀ n, q (8 + n) = q n) (k : Nat) :
    ((List.range (8 * k)).filter q).length = k * ((List.range 8).filter q).length := by
  induction k with
  | zero => simp
  | succ k ih =>
    have hcomp : q ∘ (8 + ·) = q := funext hq
    rw [Nat.mul_succ, Nat.add_comm, List.range_add, List.filter_append, List.length_append, List.filter_map,
      List.length_map, hcomp, ih]
    ring

theorem classify_hw_periodic (n : Nat) :
    classify Config.hw (BitVec.ofNat 8 (8 + n)) = classify Config.hw (BitVec.ofNat 8 n) := by
  have hlow : (BitVec.ofNat 8 (8 + n)).extractLsb' 0 3 = (BitVec.ofNat 8 n).extractLsb' 0 3 := by
    apply BitVec.eq_of_toNat_eq
    simp only [BitVec.extractLsb'_toNat, BitVec.toNat_ofNat, Nat.shiftRight_zero]
    omega
  rw [classify_hw_low_bits, hlow, ← classify_hw_low_bits]

/-- Of the 256 bytes a class has 32 times as many as of the first eight. -/
theorem length_class_eq (c : ByteClass) :
    ((List.range 256).filter fun n => classify Config.hw (BitVec.ofNat 8 n) = c).length =
      32 * ((List.range 8).filter fun n => classify Config.hw (BitVec.ofNat 8 n) = c).length :=
  length_filter_range_periodic (fun n => by rw [classify_hw_periodic]) 32

end Sys2Proof.Machine
end

section
/-! PROOFS. The statements of 10_state.md. -/

namespace Sys2Proof.Machine

/-- Settles O45: each clause is kept by every outcome of a step. -/
theorem stepKeepsRegisterInvariant : Obligations.StepKeepsRegisterInvariant := by
  intro s t hs hstep
  obtain ⟨u, hbody, rfl⟩ := step_next_body hstep
  exact hbody.registerInv hs

/-- Settles O46: in each outcome of a step the commands accepted and owed balance the responses. -/
theorem stepKeepsOneResponsePerCommand : Obligations.StepKeepsOneResponsePerCommand := by
  intro s t hs hstep
  obtain ⟨u, hbody, rfl⟩ := step_next_body hstep
  exact hbody.oneResponsePerCommand hs

/-- Settles O11: a connected byte has LOCK_GRANT set and a requested one has it clear, under either mask. -/
theorem controlByteHasOneClass : Obligations.ControlByteHasOneClass := by
  intro p b hp hmask
  have hexcl : requested p b = true → connected p b = false := by
    intro hreq
    have hclear := lockGrant_of_requested hp (lockGrant_requestedMask hp hmask) hreq
    simp [← Bool.not_eq_true, connected_iff, hclear]
  refine ⟨fun ⟨hconn, hreq⟩ => by simp [hexcl hreq] at hconn, classify_eq_connected, ?_, classify_eq_other⟩
  rw [classify_eq_requested]
  exact and_iff_right_of_imp hexcl

/-- Settles O12: a masked byte is compared bit by bit, and the masks have the bits of their flags. -/
theorem predicatesReadTheArbitrationFlags : Obligations.PredicatesReadTheArbitrationFlags :=
  fun p b hp => ⟨connected_iff p b, fun hmask => requested_iff hp hmask b⟩

/-- Settles O33: SELECT accept and DETACH are told apart from the other steps of IDLE by the word that passes. -/
theorem eachRegisterHasItsWriters : Obligations.EachRegisterHasItsWriters := by
  intro s t hstep
  obtain ⟨u, hbody, hcmd, rfl⟩ := step_next_iff.mp hstep
  cases hbody with
  | selectAccept hst =>
    have hword : s.input.cmd = some 0x02#8 := by simpa [newEvents] using hcmd.symm
    have hfetch : fetch s = .run (.select 0#4) := fetch_of_command (.inr hst) hword rfl
    simp [hst, hfetch]
  | detach hst =>
    have hword : s.input.cmd = some 0x04#8 := by simpa [newEvents] using hcmd.symm
    have hfetch : fetch s = .run .detach := fetch_of_command (.inr hst) hword rfl
    simp [hst, hfetch]
  | attachDone hst | requestDone hst => simp [hst]
  | readConnected _ hst hans | readRequested _ hst hans | readOther _ hst hans => simp [hst, hans]
  | _ => simp

/-- Settles O35: the row of each outcome of a step, the accepted command being the one presented. -/
theorem sequencingTable : Obligations.SequencingTable := by
  intro s t hstep
  obtain ⟨u, hbody, hcmd, rfl⟩ := step_next_iff.mp hstep
  rw [newEvents_advance, State.advance_st, hbody.transactionsIn_eq]
  refine ⟨by cases s.st <;> decide, ?_⟩
  cases hbody with
  | wait hst =>
    have hnone : s.input.cmd = none := by simpa [newEvents] using hcmd.symm
    obtain hst | hst := hst <;> simp [hst, hnone, newEvents]
  | attachAccept hst hcaps | attachUnsupported hst hcaps =>
    have hword : s.input.cmd = some 0x01#8 := by simpa [newEvents] using hcmd.symm
    simp [hst, hword, hcaps, newEvents]
  | attachDone hst hdone =>
    obtain ⟨-, -, hans⟩ | ⟨-, -, hans⟩ := answer_cases s.input.ans
    · simp [hst, hans, newEvents]
    · have hpolicy : Config.attachOnReleaseError = .attachAnyway := hdone.resolve_left (by simp [hans])
      simp [hst, hans, hpolicy, newEvents]
  | attachFailed e hst hans hpolicy =>
    have hpolicy : Config.attachOnReleaseError = .stayUnattached := hpolicy
    simp [hst, hans, hpolicy, newEvents]
  | detach hst =>
    have hword : s.input.cmd = some 0x04#8 := by simpa [newEvents] using hcmd.symm
    simp [hst, hword, newEvents]
  | selectAccept hst =>
    have hword : s.input.cmd = some 0x02#8 := by simpa [newEvents] using hcmd.symm
    simp [hst, hword, newEvents]
  | releaseAccept hst =>
    have hword : s.input.cmd = some 0x03#8 := by simpa [newEvents] using hcmd.symm
    simp [hst, hword, newEvents]
  | readConnected b hst hans hclass => simp [hst, hans, classify_eq_connected.mp hclass, newEvents]
  | readRequested b hst hans hclass => simp [hst, hans, classify_eq_requested.mp hclass, newEvents]
  | readOther b hst hans hclass => simp [hst, hans, classify_eq_other.mp hclass, newEvents]
  | readFailed e hst hans | requestFailed e hst hans | releaseFailed e hst hans => simp [hst, hans, newEvents]
  | requestDone hst hans | releaseDone hst hans => simp [hst, hans, newEvents]
  | sleepHold hst hwake => simp [hst, Nat.not_le.mpr hwake, newEvents]
  | sleepTimeout hst hwake hdeadline => simp [hst, hwake, hdeadline, newEvents]
  | sleepPoll hst hwake hdeadline => simp [hst, hwake, Nat.not_le.mpr hdeadline, newEvents]

/-- Settles O40: the step with another `ctl_obs` and the same delay and history. -/
theorem lastControlByteIsNeverRead : Obligations.LastControlByteIsNeverRead := by
  intro s t b hstep
  obtain ⟨d', b', hstep', -, hdelay⟩ := step_withUnread hstep s.retryDelay b s.trace
  obtain rfl := hdelay (.inl rfl)
  exact ⟨_, hstep', withUnread_self hstep⟩

/-- Settles O41: the step with another `retry_delay` and the same CONTROL byte and history. -/
theorem oldRetryDelayIsNeverRead : Obligations.OldRetryDelayIsNeverRead := by
  intro s t d hstep
  obtain ⟨d', b', hstep', hobs, hdelay⟩ := step_withUnread hstep d s.ctlObs s.trace
  obtain rfl := hobs rfl
  refine ⟨_, hstep', withUnread_self hstep, fun hst hslp => ?_⟩
  obtain rfl := hdelay (.inr ⟨hst, hslp⟩)
  exact withUnread_self hstep

/-- Settles O42: the step with another history and the same registers. -/
theorem portHistoryIsNeverRead : Obligations.PortHistoryIsNeverRead := by
  intro s t tr hstep
  obtain ⟨d', b', hstep', hobs, hdelay⟩ := step_withUnread hstep s.retryDelay s.ctlObs tr
  obtain rfl := hobs rfl
  obtain rfl := hdelay (.inl rfl)
  exact hstep'

/-- Settles O8: state by state. -/
theorem sequencingStateCodes : Obligations.SequencingStateCodes := by
  refine ⟨rfl, rfl, rfl, rfl, rfl, rfl, rfl, rfl, fun st => ?_⟩
  cases st <;> decide

/-- Settles O13: the class is that of the three low bits, so it repeats with period 8 in the 256 bytes. -/
theorem classByTheThreeLowBits : Obligations.ClassByTheThreeLowBits := by
  have hclass : ∀ low : BitVec 3, classify Config.hw (low.setWidth 8) =
      if low = 0b111#3 then .connected else if low = 0b001#3 then .requested else .other := by decide
  refine ⟨fun b => (classify_hw_low_bits b).trans (hclass _), ?_, ?_, ?_, by decide⟩
  all_goals
    rw [length_class_eq]
    decide

/-- Settles O16: the step runs the transaction of its state, whose word is the one that the state issues. -/
theorem busyStepRunsItsTransaction : Obligations.BusyStepRunsItsTransaction := by
  rintro s i hcmd (⟨hst | hst, rfl⟩ | ⟨hst, rfl⟩ | ⟨hst, rfl⟩)
  · exact transaction_run (step_of_attWr hst hcmd) (fetch_of_attWr hst hcmd) rfl rfl (by rw [hst]; rfl)
  · exact transaction_run (step_of_relWr hst hcmd) (fetch_of_relWr hst hcmd) rfl rfl (by rw [hst]; rfl)
  · exact transaction_run (step_of_selRd hst hcmd) (fetch_of_selRd hst hcmd) rfl rfl (by rw [hst]; rfl)
  · exact transaction_run (step_of_selWr hst hcmd) (fetch_of_selWr hst hcmd) rfl rfl (by rw [hst]; rfl)

/-- Settles O31: the meaning of each transaction tests `st`. -/
theorem transactionsOnlyInTheirStates : Obligations.TransactionsOnlyInTheirStates := by
  intro s
  refine ⟨fun hne => if_neg hne, fun hne => if_neg hne, fun hrel hatt => ?_⟩
  cases hst : s.st with
  | relWr => exact absurd hst hrel
  | attWr => exact absurd hst hatt
  | _ => simp [exec, execWrRel, hst]

end Sys2Proof.Machine
end

section
/-! PROOFS. The decoder against the encoder, for every parameter set (R71 to R77, R85), and what a word that decodes to nothing
does to a step (R74, R207). -/

namespace Sys2Proof

variable {p : Config.Params}

/-! ## The command words of each operation -/

/-- With the code of ATTACH only CH is left to check (R73). -/
@[simp] theorem decodeCmdWith_attach (ch : BitVec 4) :
    decodeCmdWith p (cmdWord ch 0b001#3) = if ch = 0#4 then .ok .attach else .error (.channel ch) := by
  simp [decodeCmdWith]

@[simp] theorem decodeCmdWith_select (ch : BitVec 4) :
    decodeCmdWith p (cmdWord ch 0b010#3) = if channelOk p ch then .ok (.select ch) else .error (.channel ch) := by
  simp [decodeCmdWith]

@[simp] theorem decodeCmdWith_release (ch : BitVec 4) :
    decodeCmdWith p (cmdWord ch 0b011#3) = if channelOk p ch then .ok (.release ch) else .error (.channel ch) := by
  simp [decodeCmdWith]

@[simp] theorem decodeCmdWith_detach (ch : BitVec 4) :
    decodeCmdWith p (cmdWord ch 0b100#3) = if ch = 0#4 then .ok .detach else .error (.channel ch) := by
  simp [decodeCmdWith]

/-! ## The transaction words -/

@[simp] theorem txnKind_txnRdCtl : txnKind (txnRdCtl p).word = 0b00#2 := txnKind_txnWord _ _ _ _

@[simp] theorem txnKind_txnWrbReq : txnKind (txnWrbReq p).word = 0b10#2 := txnKind_txnWord _ _ _ _

@[simp] theorem txnKind_txnWrRel : txnKind (txnWrRel p).word = 0b01#2 := txnKind_txnWord _ _ _ _

theorem ne_of_txnKind_ne {v w : TxnWord} (h : txnKind v ≠ txnKind w) : v ≠ w := fun heq => h (congrArg txnKind heq)

theorem decodeTxnWith_rdCtl : decodeTxnWith p (txnRdCtl p).word = .ok .rdCtl := if_pos rfl

/-- The words ARBC emits differ by KIND, whatever the parameters are, so no test of the decoder shadows a later one. -/
theorem decodeTxnWith_wrbReq : decodeTxnWith p (txnWrbReq p).word = .ok .wrbReq := by
  have hrd : (txnWrbReq p).word ≠ (txnRdCtl p).word := ne_of_txnKind_ne (by simp)
  rw [decodeTxnWith, if_neg hrd, if_pos rfl]

theorem decodeTxnWith_wrRel : decodeTxnWith p (txnWrRel p).word = .ok .wrRel := by
  have hrd : (txnWrRel p).word ≠ (txnRdCtl p).word := ne_of_txnKind_ne (by simp)
  have hwrb : (txnWrRel p).word ≠ (txnWrbReq p).word := ne_of_txnKind_ne (by simp)
  rw [decodeTxnWith, if_neg hrd, if_neg hwrb, if_pos rfl]

/-- A transaction word that decodes is the word of the instruction it decodes to. -/
theorem encodeWith_of_decodeTxnWith {w : TxnWord} {i : Instr} (h : decodeTxnWith p w = .ok i) :
    encodeWith p i = .txn w := by
  unfold decodeTxnWith at h
  split at h
  next hw => cases h; exact congrArg PortWord.txn hw.symm
  split at h
  next hw => cases h; exact congrArg PortWord.txn hw.symm
  split at h
  next hw => cases h; exact congrArg PortWord.txn hw.symm
  split at h <;> cases h

/-! ## Decoder and encoder -/

/-- The word of an instruction decodes to it exactly if the instruction is well formed. -/
theorem decodeWith_encodeWith_iff (i : Instr) : decodeWith p (encodeWith p i) = .ok i ↔ i.wfWith p = true := by
  cases i with
  | attach | detach | select | release => simp [encodeWith, decodeWith, Instr.wfWith]
  | rdCtl => exact iff_of_true decodeTxnWith_rdCtl rfl
  | wrbReq => exact iff_of_true decodeTxnWith_wrbReq rfl
  | wrRel => exact iff_of_true decodeTxnWith_wrRel rfl

theorem encodeWith_of_decodeWith {w : PortWord} {i : Instr} (h : decodeWith p w = .ok i) : encodeWith p i = w := by
  cases w with
  | cmd => exact Machine.encodeWith_of_decodeCmdWith h
  | txn => exact encodeWith_of_decodeTxnWith h

/-- The words that decode are the words of the well-formed instructions. -/
theorem decodeWith_eq_ok_iff {w : PortWord} {i : Instr} :
    decodeWith p w = .ok i ↔ encodeWith p i = w ∧ i.wfWith p = true := by
  constructor
  · intro h
    obtain rfl := encodeWith_of_decodeWith h
    exact ⟨rfl, (decodeWith_encodeWith_iff i).mp h⟩
  · rintro ⟨rfl, hwf⟩
    exact (decodeWith_encodeWith_iff i).mpr hwf

theorem decode_encode (i : Instr) (hwf : i.wf = true) : decode (encode i) = .ok i := (decodeWith_encodeWith_iff i).mpr hwf

/-- The command words of this hardware and what they decode to (R74). -/
theorem decode_cmd_eq_ok_iff {w : CmdWord} {i : Instr} : decode (.cmd w) = .ok i ↔
    w = 0x01#8 ∧ i = .attach ∨ w = 0x02#8 ∧ i = .select 0#4 ∨ w = 0x03#8 ∧ i = .release 0#4 ∨ w = 0x04#8 ∧ i = .detach := by
  constructor
  · intro h
    obtain ⟨hw, hwf⟩ := decodeWith_eq_ok_iff.mp h
    cases i with
    | attach | detach => cases hw; decide
    | select ch | release ch =>
      obtain rfl := (channelOk_hw ch).mp hwf
      cases hw
      decide
    | rdCtl | wrbReq | wrRel => cases hw
  · rintro (⟨rfl, rfl⟩ | ⟨rfl, rfl⟩ | ⟨rfl, rfl⟩ | ⟨rfl, rfl⟩) <;> exact decodeWith_eq_ok_iff.mpr ⟨rfl, rfl⟩

/-- A number of the opcode table that stands for an instruction's word is read as that instruction. -/
theorem decodeTableWord_of_encode {nbits w : Nat} {i : Instr} (hw : tableWord nbits w = some (encode i))
    (hwf : i.wf = true) : decodeTableWord nbits w = some i := by
  simp only [decodeTableWord, hw, decode_encode i hwf]

/-! ## The fields of the port words, bit by bit -/

/-- The fields of a request word in the bits that R76 gives them. -/
theorem txnWord_bits (kind : BitVec 2) (addr d0 d1 : Byte) :
    (txnWord kind addr d0 d1).extractLsb' 24 2 = kind ∧ (txnWord kind addr d0 d1).extractLsb' 16 8 = addr ∧
    (txnWord kind addr d0 d1).extractLsb' 8 8 = d0 ∧ (txnWord kind addr d0 d1).extractLsb' 0 8 = d1 :=
  ⟨txnKind_txnWord .., txnAddr_txnWord .., txnD0_txnWord .., txnD1_txnWord ..⟩

end Sys2Proof

namespace Sys2Proof.Machine

variable {s : State}

/-- OK is bit 16 of an answer, as a field of one bit (R78). -/
theorem ansOk_eq_field (a : AnsWord) : ansOk a = (a.extractLsb' 16 1).getLsbD 0 := by
  simp [ansOk_eq_bit]

/-! ## Command words that give no step -/

theorem step_of_undecoded_command {w : CmdWord} {e : DecodeError} (hst : s.st = .unattached ∨ s.st = .idle)
    (hcmd : s.input.cmd = some w) (hdec : decode (.cmd w) = .error e) : step s = .refused (.commandWord e) := by
  obtain hst | hst := hst <;> simp [step, fetch, hst, fetchCommand, hcmd, hdec]

/-- A busy ARBC refuses every command word (R207). -/
theorem step_of_busy_command {w : CmdWord} (hst : s.st.busy = true) (hcmd : s.input.cmd = some w) :
    step s = .refused (.commandInState s.st) := by
  cases hs : s.st <;> simp [hs, SeqState.busy, step, fetch, fetchBusy, hcmd] at hst ⊢

theorem SeqState.waiting_of_not_busy {st : SeqState} (h : ¬ st.busy = true) : st = .unattached ∨ st = .idle := by
  cases st <;> simp [SeqState.busy] at h ⊢

/-- A command word that decodes to nothing is refused in every state (R74, R207). -/
theorem step_refused_of_undecoded {w : CmdWord} {e : DecodeError} (hcmd : s.input.cmd = some w)
    (hdec : decode (.cmd w) = .error e) : ∃ r, step s = .refused r := by
  by_cases hbusy : s.st.busy = true
  · exact ⟨_, step_of_busy_command hbusy hcmd⟩
  · exact ⟨_, step_of_undecoded_command (SeqState.waiting_of_not_busy hbusy) hcmd hdec⟩

end Sys2Proof.Machine
end

section
/-! PROOFS. The statements of 30_encoding.md. -/

namespace Sys2Proof.Machine

/-- Settles O1: operation by operation; the transaction words differ by KIND. -/
theorem decodeOfEncodeIsIdentity : Obligations.DecodeOfEncodeIsIdentity :=
  fun _ i => (decodeWith_encodeWith_iff i).mpr

/-- Settles O2: the word is the encoded one in each branch of the decoder, and the word of an instruction that is not well
formed does not decode to it. -/
theorem decodedWordIsTheEncodedOne : Obligations.DecodedWordIsTheEncodedOne :=
  fun _ _ _ => decodeWith_eq_ok_iff.mp

/-- Settles O4: none of the four words that decode has a reserved field. -/
theorem reservedCommandWordsAreRefused : Obligations.ReservedCommandWordsAreRefused := by
  refine ⟨fun s w hcmd hres => ?_, fun w i => decode_cmd_eq_ok_iff⟩
  cases hdec : decode (.cmd w) with
  | error e => exact step_refused_of_undecoded hcmd hdec
  | ok i =>
    obtain ⟨rfl, -⟩ | ⟨rfl, -⟩ | ⟨rfl, -⟩ | ⟨rfl, -⟩ := decode_cmd_eq_ok_iff.mp hdec <;> exact absurd hres (by decide)

/-- Settles O3: each word is the encoded one of a well-formed instruction. -/
theorem opcodeTableWordsDecode : Obligations.OpcodeTableWordsDecode := by
  refine ⟨decode_encode .attach rfl, decode_encode (.select 0#4) rfl, decode_encode (.release 0#4) rfl,
    decode_encode .detach rfl, decode_encode .rdCtl rfl, decode_encode .wrbReq rfl, decode_encode .wrRel rfl,
    ?_, ?_, ?_, ?_, ?_, ?_, ?_⟩
  all_goals exact decodeTableWord_of_encode rfl rfl

/-- Settles O5: the fields at every width, read at this hardware's. -/
theorem responseWordFields : Obligations.ResponseWordFields := by
  intro c e
  refine ⟨respPayload_respWordOf e c, respWordOf_middle e c, (respCodeBits_respWordOf e c).trans ?_,
    ArbcError.word_transport e, respWord_timeout, respWord_unsupported, respWord_ok⟩
  cases c <;> rfl

/-- Settles O6: each operation's word is a `txnWord` of its operands. -/
theorem transactionWordFields : Obligations.TransactionWordFields :=
  fun _ _ _ => ⟨txnWord_bits .., txnWord_bits .., txnWord_bits ..⟩

/-- Settles O7: the OK field tells which of the two kinds of answer it is. -/
theorem answerWordFields : Obligations.AnswerWordFields := by
  intro a
  obtain ⟨hok, hread, hwrite⟩ | ⟨hok, hread, hwrite⟩ := answer_cases a <;> rw [ansOk_eq_field] at hok
  · exact ⟨fun _ => ⟨hread, hwrite⟩, fun hzero => by simp [hzero] at hok⟩
  · exact ⟨fun hone => by simp [hone] at hok, fun _ => ⟨hread, hwrite⟩⟩

/-- Settles O15: a waiting ARBC fetches the word on its command port. -/
theorem waitingStepRunsTheDecodedCommand : Obligations.WaitingStepRunsTheDecodedCommand :=
  fun _ _ hst hcmd => ⟨fun _ => step_of_decoded_command hst hcmd, fun _ => step_of_undecoded_command hst hcmd⟩

/-- Settles O25: channel 0 is the only one of this hardware, and the other two operations take none. -/
theorem otherChannelsAreRefused : Obligations.OtherChannelsAreRefused := by
  intro s ch hch
  have hno : ¬ channelOk Config.hw ch = true := fun h => hch ((channelOk_hw ch).mp h)
  refine ⟨if_neg hno, if_neg hno, ?attach, ?select, ?release, ?detach⟩
  case attach => exact (decodeCmdWith_attach ch).trans (if_neg hch)
  case select => exact (decodeCmdWith_select ch).trans (if_neg hno)
  case release => exact (decodeCmdWith_release ch).trans (if_neg hno)
  case detach => exact (decodeCmdWith_detach ch).trans (if_neg hch)

end Sys2Proof.Machine
end

section
/-! PROOFS. What the transactions and the commands of a step leave unchanged, and where a transaction stands among the events of
its step (R20, R105 to R108). -/

namespace Sys2Proof.Machine

variable {s t u : State} {i : Instr}

/-! ## The environment moves on once -/

/-- No outcome of a step consumes an input record by itself. -/
theorem StepBody.env_eq (h : StepBody s u) : u.env = s.env := by
  cases h <;> rfl

theorem StepBody.tick_eq (h : StepBody s u) : u.tick = s.tick := by
  cases h <;> rfl

/-! ## The registers that a command or a transaction does not write -/

theorem cmdWord_ne_of_op {ch : BitVec 4} {op : BitVec 3} {w : CmdWord} (hop : op ≠ cmdOp w) : cmdWord ch op ≠ w :=
  fun hw => hop (by rw [← hw, cmdOp_cmdWord])

/-- A command writes neither `wake_at` nor `ctl_obs`, `retry_delay` and `deadline` only as SELECT (R141), and `attach_ok` only as
DETACH (R173). -/
theorem exec_command_frame {w : CmdWord} (henc : encode i = .cmd w) (h : exec i s = .next t) :
    t.wakeAt = s.wakeAt ∧ t.ctlObs = s.ctlObs ∧
      (w ≠ 0x02#8 → t.retryDelay = s.retryDelay ∧ t.deadline = s.deadline) ∧
      (w ≠ 0x04#8 → t.attachOk = s.attachOk) := by
  have hcmd := exec_command_passes_its_word henc h
  obtain ⟨u, hbody, rfl⟩ := exec_next_body h
  cases hbody with
  | attachAccept | attachUnsupported | releaseAccept => simp
  | selectAccept | detach =>
    simp only [newEvents, State.advance_trace, State.emit_trace, State.succeed_trace, List.append_assoc,
      List.drop_left] at hcmd
    obtain rfl := List.singleton_inj.mp hcmd
    simp
  | _ => simp [newEvents] at hcmd

/-- The meaning of a transaction takes a step only in a state that issues its word (R105 to R107). -/
theorem exec_transaction_issues {w : TxnWord} (henc : encode i = .txn w) (h : exec i s = .next t) : s.st.issues = [w] := by
  obtain ⟨hrd, hwrb, hrel⟩ := transactionsOnlyInTheirStates s
  cases i with
  | rdCtl =>
    have hst : s.st = .selRd := by_contra fun hne => by simp [hrd hne] at h
    cases henc
    rw [hst]; rfl
  | wrbReq =>
    have hst : s.st = .selWr := by_contra fun hne => by simp [hwrb hne] at h
    cases henc
    rw [hst]; rfl
  | wrRel =>
    have hst : s.st = .relWr ∨ s.st = .attWr := by_contra fun hne => by
      obtain ⟨hne, hne'⟩ := not_or.mp hne
      simp [hrel hne hne'] at h
    cases henc
    obtain hst | hst := hst <;> rw [hst] <;> rfl
  | attach | select | release | detach => cases henc

/-- A transaction keeps `deadline`; `ctl_obs` is written by RD_CTL only, `attach_ok` by WR_REL only, and WR_REL writes neither
`retry_delay` nor `wake_at` (R121, R122, R161, R171). -/
theorem exec_transaction_frame {w : TxnWord} (henc : encode i = .txn w) (h : exec i s = .next t) :
    t.deadline = s.deadline ∧ (w ≠ 0x0010000#26 → t.ctlObs = s.ctlObs) ∧
      (w ≠ 0x1010000#26 → t.attachOk = s.attachOk) ∧
      (w = 0x1010000#26 → t.retryDelay = s.retryDelay ∧ t.wakeAt = s.wakeAt) := by
  have hissues := exec_transaction_issues henc h
  obtain ⟨u, hbody, rfl⟩ := exec_next_body h
  cases hbody with
  | attachDone hst | readConnected _ hst | readRequested _ hst | readOther _ hst | requestDone hst =>
    rw [hst] at hissues
    obtain rfl := List.singleton_inj.mp hissues
    simp
  | selectAccept hst | detach hst => simp [hst, SeqState.issues] at hissues
  | _ => simp

/-! ## Transactions among the events of a step -/

/-- Whatever a state issues is one of the three words of R77. -/
theorem SeqState.mem_issues {st : SeqState} {w : TxnWord} (h : w ∈ st.issues) :
    w = 0x0010000#26 ∨ w = 0x2812514#26 ∨ w = 0x1010000#26 := by
  cases st with
  | unattached | idle | selSlp => simp [SeqState.issues] at h
  | attWr | selRd | selWr | relWr =>
    obtain rfl := List.mem_singleton.mp h
    decide

/-- Only SEL_WR issues the request write (R106). -/
theorem SeqState.eq_selWr_of_issues {st : SeqState} (h : 0x2812514#26 ∈ st.issues) : st = .selWr := by
  cases st with
  | selWr => rfl
  | _ => simp [SeqState.issues] at h

theorem mem_issues_of_step {w : TxnWord} (h : step s = .next t) (hw : w ∈ transactionsIn (newEvents s t)) :
    w ∈ s.st.issues := by
  obtain ⟨u, hbody, rfl⟩ := step_next_body h
  exact hbody.transactionsIn_eq ▸ hw

/-- After its first event a step passes no transaction. -/
theorem StepBody.transactionsIn_tail (h : StepBody s u) : transactionsIn (newEvents s u).tail = [] := by
  cases h <;> simp [newEvents]

/-- A transaction is the first event of its step, and one that the state issues. -/
theorem StepBody.transaction_first {w : TxnWord} {a : AnsWord} {es fs : List Event} (h : StepBody s u)
    (hev : newEvents s u = es ++ .txn w a :: fs) : es = [] ∧ w ∈ s.st.issues := by
  constructor
  · have htail := h.transactionsIn_tail
    cases es with
    | nil => rfl
    | cons e es => simp [hev] at htail
  · simp [← h.transactionsIn_eq, hev]

/-- SEL_WR is entered only by a read of class "other" (R123). -/
theorem StepBody.endsWithOtherRead (h : StepBody s u) (hu : u.st = .selWr) : EndsWithOtherRead u.trace := by
  cases h with
  | readOther b hst hans hclass => exact ⟨s.trace, s.input.ans, b, rfl, hans, hclass⟩
  | wait hst => obtain hst | hst := hst <;> simp [hst] at hu
  | _ => simp [*] at hu

/-- An event of a history that has grown is an old one, or one of those added. -/
theorem event_old_or_new {tr es before after : List Event} {e : Event} (h : tr ++ es = before ++ e :: after) :
    (∃ fs, tr = before ++ e :: fs) ∨ ∃ fs, before = tr ++ fs ∧ es = fs ++ e :: after := by
  obtain ⟨fs, hbefore, hes⟩ | ⟨fs, htr, hafter⟩ := List.append_eq_append_iff.mp h
  · exact .inr ⟨fs, hbefore, hes⟩
  · cases fs with
    | nil => exact .inr ⟨[], by simp [htr], by simpa using hafter.symm⟩
    | cons f fs =>
      obtain ⟨rfl, -⟩ := List.cons.inj hafter
      exact .inl ⟨fs, htr⟩

end Sys2Proof.Machine
end

section
/-! PROOFS. The statements of 40_transport.md. -/

namespace Sys2Proof.Machine

/-- Settles O49: a request write that is new in the history is the first event of a SEL_WR step, so the read that SEL_WR was
entered by stands right before it. -/
theorem stepKeepsRequestsGuarded : Obligations.StepKeepsRequestsGuarded := by
  intro s t hs hstep
  obtain ⟨u, hbody, rfl⟩ := step_next_body hstep
  refine ⟨fun before a after htr => ?_, hbody.endsWithOtherRead⟩
  obtain ⟨fs, hold⟩ | ⟨fs, rfl, hnew⟩ := event_old_or_new (hbody.trace_eq.symm.trans htr)
  · exact hs.past before a fs hold
  · obtain ⟨rfl, hissued⟩ := hbody.transaction_first hnew
    rw [List.append_nil]
    exact hs.pending (SeqState.eq_selWr_of_issues hissued)

/-- Settles O34: a command is known by the word that passes and a transaction by the state that issues it. -/
theorem instructionFrames : Obligations.InstructionFrames := by
  intro i s t hexec
  obtain ⟨u, hbody, rfl⟩ := exec_next_body hexec
  refine ⟨⟨newEvents s u, hbody.trace_eq.symm⟩, hbody.sample_eq, congrArg List.tail hbody.env_eq,
    congrArg (· + 1) hbody.tick_eq, ?_⟩
  cases i with
  | attach =>
    obtain ⟨hwake, hobs, htimes, hattach⟩ := exec_command_frame rfl hexec
    obtain ⟨hdelay, hdeadline⟩ := htimes (by decide)
    exact ⟨hdelay, hdeadline, hwake, hobs, hattach (by decide)⟩
  | select ch =>
    obtain ⟨hwake, hobs, -, hattach⟩ := exec_command_frame rfl hexec
    exact ⟨hwake, hobs, hattach (cmdWord_ne_of_op (by decide))⟩
  | release ch =>
    obtain ⟨hwake, hobs, htimes, hattach⟩ := exec_command_frame rfl hexec
    obtain ⟨hdelay, hdeadline⟩ := htimes (cmdWord_ne_of_op (by decide))
    exact ⟨hdelay, hdeadline, hwake, hobs, hattach (cmdWord_ne_of_op (by decide))⟩
  | detach =>
    obtain ⟨hwake, hobs, htimes, -⟩ := exec_command_frame rfl hexec
    obtain ⟨hdelay, hdeadline⟩ := htimes (by decide)
    exact ⟨hdelay, hdeadline, hwake, hobs⟩
  | rdCtl =>
    obtain ⟨hdeadline, -, hattach, -⟩ := exec_transaction_frame rfl hexec
    exact ⟨hdeadline, hattach (by decide)⟩
  | wrbReq =>
    obtain ⟨hdeadline, hobs, hattach, -⟩ := exec_transaction_frame rfl hexec
    exact ⟨hdeadline, hobs (by decide), hattach (by decide)⟩
  | wrRel =>
    obtain ⟨hdeadline, hobs, -, hpoll⟩ := exec_transaction_frame rfl hexec
    obtain ⟨hdelay, hwake⟩ := hpoll rfl
    exact ⟨hdelay, hdeadline, hwake, hobs (by decide)⟩

/-- Settles O47: a transaction of the history is an old one or one that the state of the step issues. -/
theorem stepKeepsOnlyThreeTransactions : Obligations.StepKeepsOnlyThreeTransactions := by
  intro s t hs hstep w hw
  rw [step_trace_eq hstep, transactionsIn_append, List.mem_append] at hw
  exact hw.elim (hs w) fun hnew => SeqState.mem_issues (mem_issues_of_step hstep hnew)

/-- Settles O48: the ADDR fields of the three words a state can issue. -/
theorem transactionsAddressOnlyControl : Obligations.TransactionsAddressOnlyControl := by
  intro s t w hstep hw
  have hword := SeqState.mem_issues (mem_issues_of_step hstep hw)
  refine ⟨hword, ?_⟩
  obtain rfl | rfl | rfl := hword <;> decide

end Sys2Proof.Machine
end

section
/-! PROOFS. The outcomes of ARBITRATE as whole next states, and runs put together from outcomes of `StepBody` (R121, R122, R143,
R204). -/

namespace Sys2Proof.Machine

variable {s t u : State} {b : Byte} {i0 i1 : Input} {rest : List Input}

/-! ## Ends of a step, field by field -/

/-- A step that passes `es` and ends its command with OK. -/
theorem State.emit_succeed_advance (s : State) (es : List Event) (target : SeqState) :
    ((s.emit es).succeed target).advance = { s with
      st := target, trace := s.trace ++ (es ++ [.resp 0x0000#16]),
      now := s.sample, env := s.env.tail, tick := s.tick + 1 } := by
  simp [State.advance, State.succeed, State.respond, State.emit]

/-- A step that passes `es` and ends its command with a transport error, elsewhere than in ATTACH (R204). -/
theorem State.emit_raise_transport_advance (s : State) (es : List Event) (e : ErrPayload) (hst : s.st ≠ .attWr) :
    ((s.emit es).raise (.transport e)).advance = { s with
      st := .idle, trace := s.trace ++ (es ++ [.resp (respWord .transport e)]),
      now := s.sample, env := s.env.tail, tick := s.tick + 1 } := by
  simp [State.advance, State.raise, State.respond, State.emit, hst, ArbcError.code, ArbcError.payload]

/-- A step that passes `es` and goes to sleep for the delay it has set (R143). -/
theorem State.emit_sleepEntry_advance (s : State) (es : List Event) :
    (s.emit es).sleepEntry.advance = { s with
      st := .selSlp, wakeAt := s.sample + s.retryDelay, trace := s.trace ++ (es ++ [.sample s.sample]),
      now := s.sample, env := s.env.tail, tick := s.tick + 1 } := by
  simp [State.advance, State.sleepEntry, State.emit]

/-! ## The meaning of the two transactions of ARBITRATE in the states that issue them -/

theorem exec_rdCtl_of_selRd (hst : s.st = .selRd) : exec .rdCtl s = .next (arbitrateRead Config.hw s).advance := if_pos hst

theorem exec_wrbReq_of_selWr (hst : s.st = .selWr) : exec .wrbReq s = .next (arbitrateRequest Config.hw s).advance :=
  if_pos hst

/-- What RD_CTL does after a successful read is decided by the class of the byte (R121). -/
theorem exec_rdCtl_of_read (hst : s.st = .selRd) (hans : readResult s.input.ans = .ok b) :
    exec .rdCtl s = .next (arbitrateOn Config.hw b
      ({ s with ctlObs := b }.emit [.txn 0x0010000#26 s.input.ans])).advance := by
  rw [exec_rdCtl_of_selRd hst, arbitrateRead_ok _ _ _ hans]
  rfl

/-- On this hardware no requested byte is connected: both predicates compare the same three bits. -/
theorem connected_hw_eq_false_of_requested (h : requested Config.hw b = true) : connected Config.hw b = false := by
  have hbits : b &&& arbMask Config.hw = ctlMask Config.hw .lockReq := eq_of_beq h
  rw [connected, hbits]
  rfl

theorem classify_hw_eq_requested : classify Config.hw b = .requested ↔ requested Config.hw b = true :=
  classify_eq_requested.trans (and_iff_right_of_imp connected_hw_eq_false_of_requested)

/-! ## Runs, outcome by outcome -/

/-- A busy ARBC with no command presented takes the step of each outcome that its state has. -/
theorem StepBody.step_eq_of_busy (h : StepBody s u) (hbusy : s.st.busy = true) (hcmd : s.input.cmd = none) :
    step s = .next u.advance :=
  h.step_eq (by rw [h.commandsIn_eq_nil_of_busy hbusy, hcmd]; rfl)

theorem step_of_select_command (hst : s.st = .idle) (hcmd : s.input.cmd = some 0x02#8) :
    step s = .next { (s.emit [.cmd 0x02#8]).emit [.sample s.sample] with
      retryDelay := Config.hw.shortUs, deadline := s.sample + Config.hw.timeoutUs, st := .selRd }.advance :=
  (StepBody.selectAccept hst).step_eq (by simp [newEvents, hcmd])

theorem runsTo_one_of_step (h : step s = .next t) : runsTo 1 s t := (runsTo_succ h).mpr (runsTo_zero.mpr rfl)

theorem runsTo_two_of_steps (h : step s = .next u) (h' : step u = .next t) : runsTo 2 s t :=
  (runsTo_succ h).mpr (runsTo_one_of_step h')

/-- After a step the second scripted record is the current one. -/
theorem input_of_step (henv : s.env = i0 :: i1 :: rest) (h : step s = .next t) : t.input = i1 := by
  obtain ⟨u, hbody, rfl⟩ := step_next_body h
  have htail : u.advance.env = i1 :: rest := by rw [State.advance_env, hbody.env_eq, henv, List.tail_cons]
  exact State.input_of_env _ _ _ htail

end Sys2Proof.Machine
end

section
/-! PROOFS. The statements of 41_arbitrate.md. -/

namespace Sys2Proof.Machine

/-- Settles O27: the answer's error, or the class of the byte read. -/
theorem arbitrateReadPhase : Obligations.ArbitrateReadPhase := by
  refine ⟨fun s e hst hans => ?failed, fun s b hst hans => ⟨fun hconn => ?connected, fun hreq => ?requested,
    fun hconn hreq => ?other⟩⟩
  case failed =>
    rw [exec_rdCtl_of_selRd hst, arbitrateRead_error _ _ _ hans]
    exact congrArg Host.Outcome.next (State.emit_raise_transport_advance s _ e (by simp [hst]))
  all_goals rw [exec_rdCtl_of_read hst hans, arbitrateOn]
  case connected =>
    rw [classify_eq_connected.mpr hconn]
    exact congrArg Host.Outcome.next (State.emit_succeed_advance { s with ctlObs := b } _ .idle)
  case requested =>
    rw [classify_hw_eq_requested.mpr hreq]
    exact congrArg Host.Outcome.next
      (State.emit_sleepEntry_advance { s with ctlObs := b, retryDelay := Config.hw.longUs } _)
  case other =>
    rw [classify_eq_other.mpr ⟨hconn, hreq⟩]
    rfl

/-- Settles O28: by the answer to the block write. -/
theorem arbitrateRequestPhase : Obligations.ArbitrateRequestPhase := by
  refine ⟨fun s hst hans => ?_, fun s e hst hans => ?_⟩ <;> rw [exec_wrbReq_of_selWr hst]
  · rw [arbitrateRequest_ok _ _ hans]
    exact congrArg Host.Outcome.next (State.emit_sleepEntry_advance { s with retryDelay := Config.hw.shortUs } _)
  · rw [arbitrateRequest_error _ _ _ hans]
    exact congrArg Host.Outcome.next (State.emit_raise_transport_advance s _ e (by simp [hst]))

/-- Settles O51: the outcome of the read for each class, followed by the request write for a byte of class "other". -/
theorem arbitrateOutcomeByClass : Obligations.ArbitrateOutcomeByClass := by
  intro s i0 i1 rest b hst henv hcmd0 hcmd1 hread hwrite
  have hinput : s.input = i0 := State.input_of_env _ _ _ henv
  rw [← hinput] at hcmd0 hread
  have hbusy : s.st.busy = true := by rw [hst]; rfl
  refine ⟨fun hclass => ?connected, fun hclass => ?requested, fun hclass => ?other⟩
  case connected =>
    have hstep := (StepBody.readConnected b hst hread hclass).step_eq_of_busy hbusy hcmd0
    exact ⟨_, runsTo_one_of_step hstep, rfl, rfl, by simp [newEvents], by simp [newEvents]⟩
  case requested =>
    have hstep := (StepBody.readRequested b hst hread hclass).step_eq_of_busy hbusy hcmd0
    exact ⟨_, runsTo_one_of_step hstep, rfl, rfl, by simp [newEvents], by simp [newEvents]⟩
  case other =>
    have hstep := (StepBody.readOther b hst hread hclass).step_eq_of_busy hbusy hcmd0
    have hnext := input_of_step henv hstep
    rw [← hnext] at hcmd1 hwrite
    have hstep' := (StepBody.requestDone rfl hwrite).step_eq_of_busy rfl hcmd1
    exact ⟨_, runsTo_two_of_steps hstep hstep', rfl, rfl, by simp [newEvents], by simp [newEvents]⟩

/-- Settles O53: SELECT's accept step, then the connected read. -/
theorem selectOnHeldBusIsOneRead : Obligations.SelectOnHeldBusIsOneRead := by
  intro s i0 i1 rest b hst henv hcmd0 hcmd1 hread hclass
  have hinput : s.input = i0 := State.input_of_env _ _ _ henv
  rw [← hinput] at hcmd0
  have hstep := step_of_select_command hst hcmd0
  have hnext := input_of_step henv hstep
  rw [← hnext] at hcmd1 hread
  have hstep' := (StepBody.readConnected b rfl hread hclass).step_eq_of_busy rfl hcmd1
  exact ⟨_, runsTo_two_of_steps hstep hstep', rfl, by simp [newEvents], by simp [newEvents]⟩

end Sys2Proof.Machine
end

section
/-! PROOFS. What a step does when no command is presented, runs of such steps, and the pace of a SELECT under them (R140 to R146). -/

namespace Sys2Proof.Machine

variable {s u v t : State} {i0 : Input} {rest : List Input} {es : List Event}

/-! ## The hardware's comparison of times -/

/-- Below half the counter's range the difference of two counter values, read as signed, is the difference of the times (R145). -/
theorem toInt_ofNat_sub_ofNat {w t x : Nat} (hw : 0 < w) (ht : t < x + 2 ^ (w - 1)) (hx : x < t + 2 ^ (w - 1)) :
    (BitVec.ofNat w t - BitVec.ofNat w x).toInt = (t : Int) - x := by
  have hrange := Nat.two_pow_pred_mul_two hw
  rw [BitVec.toInt_sub, BitVec.toInt_ofNat', BitVec.toInt_ofNat', Int.bmod_sub_bmod, Int.sub_bmod_bmod]
  exact Int.bmod_eq_of_le_mul_two (by omega) (by omega)

/-! ## Steps with no command presented -/

/-- A step that passes `es` and ends its command with a time-out (R202). -/
theorem State.emit_raise_timeout_advance (s : State) (es : List Event) :
    ((s.emit es).raise .timeout).advance = { s with
      st := .idle, trace := s.trace ++ (es ++ [.resp 0x0001#16]),
      now := s.sample, env := s.env.tail, tick := s.tick + 1 } := by
  simp [State.advance, State.raise, State.respond, State.emit, ArbcError.code, ArbcError.payload]

/-- With no command presented ARBC always takes a step (R215): a busy state has its own, and the other two wait. -/
theorem exists_step_of_no_command (hcmd : s.input.cmd = none) : ∃ t, step s = .next t := by
  cases hst : s.st with
  | unattached => exact ⟨_, step_of_waiting_no_command (.inl hst) hcmd⟩
  | idle => exact ⟨_, step_of_waiting_no_command (.inr hst) hcmd⟩
  | attWr => exact ⟨_, step_of_attWr hst hcmd⟩
  | selRd => exact ⟨_, step_of_selRd hst hcmd⟩
  | selWr => exact ⟨_, step_of_selWr hst hcmd⟩
  | selSlp => exact ⟨_, step_of_selSlp hst hcmd⟩
  | relWr => exact ⟨_, step_of_relWr hst hcmd⟩

/-- A step that accepts no command does not move the deadline: only SELECT's accept step sets it (R141). -/
theorem StepBody.deadline_eq (h : StepBody s u) (hcmd : commandsIn (newEvents s u) = []) : u.deadline = s.deadline := by
  cases h with
  | selectAccept => simp [newEvents] at hcmd
  | _ => rfl

/-- Until a command is accepted IDLE is a wait. -/
theorem StepBody.eq_self_of_idle (h : StepBody s u) (hst : s.st = .idle) (hcmd : commandsIn (newEvents s u) = []) :
    u = s := by
  cases h with
  | wait => rfl
  | detach | selectAccept | releaseAccept => simp [newEvents] at hcmd
  | _ => simp [*] at hst

/-! ## Runs in which no command is presented -/

theorem runsTo_of_step {n : Nat} (h : step s = .next u) (hrun : runsTo n u t) : runsTo (n + 1) s t :=
  (runsTo_succ h).mpr hrun

theorem newEvents_self : newEvents s s = [] := by simp [newEvents]

/-- The next step of a run after `n` scripted records reads one of the records that follow. -/
theorem input_mem_env {n : Nat} (henv : u.env = s.env.drop n) (hn : n < s.env.length) : u.input ∈ s.env := by
  rw [State.input_of_env u s.env[n] (s.env.drop (n + 1)) (henv.trans (List.drop_eq_getElem_cons hn))]
  exact List.getElem_mem hn

/-- A predicate on the number of steps, on what has passed since the start, and on the state, is carried along a run of scripted
steps that presents no command, when every such step carries it. -/
theorem runsTo_quiet {P : Nat → List Event → State → Prop} (hquiet : ∀ i ∈ s.env, i.cmd = none) (h0 : P 0 es s)
    (hstep : ∀ n fs u v, P n fs u → u.input ∈ s.env → StepBody u v → commandsIn (newEvents u v) = [] →
      P (n + 1) (fs ++ newEvents u v) v.advance)
    (n : Nat) (hn : n ≤ s.env.length) :
    ∃ t, runsTo n s t ∧ t.trace = s.trace ++ newEvents s t ∧ t.env = s.env.drop n ∧ P n (es ++ newEvents s t) t := by
  induction n with
  | zero => exact ⟨s, runsTo_zero.mpr rfl, by simp [newEvents_self], rfl, by simpa [newEvents_self] using h0⟩
  | succ n ih =>
    obtain ⟨u, hrun, htrace, henv, hP⟩ := ih (Nat.le_of_succ_le hn)
    have hmem := input_mem_env henv hn
    obtain ⟨t, hnext⟩ := exists_step_of_no_command (hquiet _ hmem)
    obtain ⟨v, hbody, hcmd, rfl⟩ := step_next_iff.mp hnext
    have hnew : newEvents s v.advance = newEvents s u ++ newEvents u v := newEvents_trans htrace hbody.trace_eq
    refine ⟨v.advance, (runsTo_add hrun).mpr (runsTo_one_of_step hnext), ?trace, ?env, ?carried⟩
    case trace =>
      rw [hnew, ← List.append_assoc, ← htrace]
      exact hbody.trace_eq
    case env => rw [State.advance_env, hbody.env_eq, henv, List.tail_drop]
    case carried =>
      rw [hnew, ← List.append_assoc]
      exact hstep n _ u v hP hmem hbody (by rw [hcmd, hquiet _ hmem]; rfl)

/-- ARBC waits in IDLE with the SELECT registers and the ports' history that `s` had. -/
structure WaitsAs (s u : State) : Prop where
  st : u.st = .idle
  retryDelay : u.retryDelay = s.retryDelay
  deadline : u.deadline = s.deadline
  wakeAt : u.wakeAt = s.wakeAt
  trace : u.trace = s.trace

theorem WaitsAs.step (hu : WaitsAs s u) (h : StepBody u v) (hcmd : commandsIn (newEvents u v) = []) :
    WaitsAs s v.advance := by
  obtain rfl := h.eq_self_of_idle hu.st hcmd
  exact ⟨hu.st, hu.retryDelay, hu.deadline, hu.wakeAt, hu.trace⟩

/-- IDLE with no command presented is a wait for as long as it lasts (R215). -/
theorem runsTo_waits (hst : s.st = .idle) (hquiet : ∀ i ∈ s.env, i.cmd = none) (n : Nat) (hn : n ≤ s.env.length) :
    ∃ t, runsTo n s t ∧ WaitsAs s t := by
  obtain ⟨t, hrun, -, -, hwaits⟩ := runsTo_quiet (P := fun _ _ u => WaitsAs s u) (es := []) hquiet
    ⟨hst, rfl, rfl, rfl, rfl⟩ (fun _ _ _ _ hu _ hbody hcmd => hu.step hbody hcmd) n hn
  exact ⟨t, hrun, hwaits⟩

/-- The state after the accept step of SELECT (R141). -/
def State.selectAccepted (s : State) : State :=
  { (s.emit [.cmd 0x02#8]).emit [.sample s.sample] with
    retryDelay := Config.hw.shortUs, deadline := s.sample + Config.hw.timeoutUs, st := .selRd }

/-- A run of a SELECT, from its acceptance on. -/
theorem runsTo_select {P : Nat → List Event → State → Prop} (hst : s.st = .idle) (henv : s.env = i0 :: rest)
    (hselect : i0.cmd = some 0x02#8) (hquiet : ∀ i ∈ rest, i.cmd = none)
    (h0 : P 0 [.cmd 0x02#8, .sample s.sample] s.selectAccepted.advance)
    (hstep : ∀ n fs u v, P n fs u → u.input ∈ rest → StepBody u v → commandsIn (newEvents u v) = [] →
      P (n + 1) (fs ++ newEvents u v) v.advance)
    {n : Nat} (hn : n ≤ rest.length) :
    ∃ t, runsTo (n + 1) s t ∧ P n (newEvents s t) t := by
  have hcmd : s.input.cmd = some 0x02#8 := by rw [State.input_of_env _ _ _ henv, hselect]
  have haccept : step s = .next s.selectAccepted.advance := step_of_select_command hst hcmd
  have hrest : s.selectAccepted.advance.env = rest := congrArg List.tail henv
  have hpassed : s.selectAccepted.advance.trace = s.trace ++ [.cmd 0x02#8, .sample s.sample] := List.append_assoc ..
  obtain ⟨t, hrun, htrace, -, hP⟩ := runsTo_quiet (by rwa [hrest]) h0 (by rwa [hrest]) n (by rwa [hrest])
  refine ⟨t, runsTo_of_step haccept hrun, ?_⟩
  rwa [newEvents_trans hpassed htrace, newEvents_of_append hpassed]

/-! ## A SELECT whose every read is requested (R146, second bound) -/

@[simp] theorem timeoutUs_hw : Config.hw.timeoutUs = 250000 := rfl

@[simp] theorem shortUs_hw : Config.hw.shortUs = 0 := rfl

@[simp] theorem longUs_hw : Config.hw.longUs = 1000 := rfl

/-- Where a contended SELECT stands after `k` reads: LONG_US has passed for each of them before the next, and each was issued
inside the window. -/
def ContendedAfter (k : Nat) (u : State) : Prop :=
  match u.st with
  | .selRd => u.deadline + k * Config.hw.longUs ≤ u.now + Config.hw.timeoutUs ∧ u.now < u.deadline
  | .selSlp => 0 < k ∧ (k - 1) * Config.hw.longUs < Config.hw.timeoutUs ∧ u.retryDelay = Config.hw.longUs ∧
      u.deadline + k * Config.hw.longUs ≤ u.wakeAt + Config.hw.timeoutUs
  | .idle => 0 < k ∧ (k - 1) * Config.hw.longUs < Config.hw.timeoutUs ∧ u.retryDelay = Config.hw.longUs
  | .unattached | .attWr | .selWr | .relWr => False

/-- There are no more reads than LONG_US goes into the window, the last one rounded up. -/
theorem ContendedAfter.reads_le {k : Nat} (hu : ContendedAfter k u) :
    k ≤ (Config.hw.timeoutUs + Config.hw.longUs - 1) / Config.hw.longUs := by
  have hinside : (k - 1) * 1000 < 250000 := by
    cases hst : u.st with
    | selRd =>
      simp only [ContendedAfter, hst, timeoutUs_hw, longUs_hw] at hu
      omega
    | selSlp | idle =>
      simp only [ContendedAfter, hst] at hu
      obtain ⟨-, hinside, -⟩ := hu
      exact hinside
    | unattached | attWr | selWr | relWr => simp [ContendedAfter, hst] at hu
  rw [timeoutUs_hw, longUs_hw]
  omega

/-- A contended SELECT after `k` reads, with all that has passed on the ports since its acceptance. -/
structure ContendedRun (k : Nat) (es : List Event) (u : State) : Prop where
  stands : ContendedAfter k u
  transactions : transactionsIn es = List.replicate k 0x0010000#26
  responses : responsesIn es = if u.st = .idle then [0x0001#16] else []

/-- A step with no command presented and a requested byte answered is a wait, a read, a hold, a poll or the time-out. -/
theorem ContendedRun.step {k : Nat} {b : Byte} (hu : ContendedRun k es u) (h : StepBody u v)
    (hcmd : commandsIn (newEvents u v) = []) (hread : readResult u.input.ans = .ok b)
    (hclass : classify Config.hw b = .requested) : ∃ k', ContendedRun k' (es ++ newEvents u v) v.advance := by
  obtain ⟨hstands, htxns, hresps⟩ := hu
  have hle : u.now ≤ u.sample := u.now_le_sample
  cases h with
  | wait hst =>
    obtain hst | hst := hst
    · simp [ContendedAfter, hst] at hstands
    · exact ⟨k, by simpa [ContendedAfter, hst] using hstands, by simp [newEvents, htxns], by simp [newEvents, hresps, hst]⟩
  | sleepHold hst =>
    exact ⟨k, by simpa [ContendedAfter, hst] using hstands, by simp [newEvents, htxns], by simp [newEvents, hresps, hst]⟩
  | readRequested _ hst =>
    simp only [ContendedAfter, hst, timeoutUs_hw, longUs_hw] at hstands
    have hinside : (k + 1 - 1) * 1000 < 250000 := by omega
    have hpassed : u.deadline + (k + 1) * 1000 ≤ u.sample + 1000 + 250000 := by omega
    exact ⟨k + 1, ⟨k.succ_pos, hinside, rfl, hpassed⟩, by simp [newEvents, htxns, List.replicate_succ'],
      by simp [newEvents, hresps, hst]⟩
  | sleepTimeout hst =>
    simp only [ContendedAfter, hst] at hstands
    obtain ⟨hpos, hinside, hdelay, -⟩ := hstands
    exact ⟨k, ⟨hpos, hinside, hdelay⟩, by simp [newEvents, htxns], by simp [newEvents, hresps, hst]⟩
  | sleepPoll hst hwake hdeadline =>
    simp only [ContendedAfter, hst] at hstands
    obtain ⟨-, -, -, hpassed⟩ := hstands
    exact ⟨k, ⟨hpassed.trans (Nat.add_le_add_right hwake _), hdeadline⟩, by simp [newEvents, htxns],
      by simp [newEvents, hresps, hst]⟩
  | readConnected _ _ hans hother | readOther _ _ hans hother =>
    cases hans.symm.trans hread
    simp [hclass] at hother
  | readFailed _ _ hans => cases hans.symm.trans hread
  | detach | selectAccept | releaseAccept => simp [newEvents] at hcmd
  | _ => simp [ContendedAfter, *] at hstands

/-! ## A SELECT while the CLOCK advances (R146, first bound) -/

/-- Where a SELECT stands `n` steps after its acceptance if each of them took a microsecond or more. The read is inside the window,
the request write follows it at once, and the last sleep ends within LONG_US. -/
def PacedAfter (n : Nat) (u : State) : Prop :=
  match u.st with
  | .selRd => u.deadline + n ≤ u.now + Config.hw.timeoutUs ∧ u.now < u.deadline
  | .selWr => u.deadline + n ≤ u.now + Config.hw.timeoutUs ∧ n ≤ Config.hw.timeoutUs
  | .selSlp => u.deadline + n ≤ u.now + Config.hw.timeoutUs ∧ n ≤ Config.hw.timeoutUs + Config.hw.longUs + 1 ∧
      u.wakeAt + n ≤ u.now + Config.hw.timeoutUs + Config.hw.longUs + 1
  | .idle => True
  | .unattached | .attWr | .relWr => False

/-- Every step takes its microsecond: of the window, until the deadline, and of the last sleep after that; a hold is one only while
`wake_at` is ahead. -/
theorem PacedAfter.step {n : Nat} (hu : PacedAfter n u) (h : StepBody u v) (hcmd : commandsIn (newEvents u v) = [])
    (hclock : 1 ≤ u.input.advance) : PacedAfter (n + 1) v.advance := by
  have hsample : u.sample = u.now + u.input.advance := rfl
  cases h with
  | wait hst => obtain hst | hst := hst <;> simp [PacedAfter, hst] at hu ⊢
  | readRequested _ hst | readOther _ hst | requestDone hst | sleepHold hst | sleepPoll hst =>
    simp [PacedAfter, hst] at hu ⊢
    omega
  | readConnected | sleepTimeout => simp [PacedAfter]
  | readFailed _ hst | requestFailed _ hst => simp [PacedAfter, hst]
  | detach | selectAccept | releaseAccept => simp [newEvents] at hcmd
  | _ => simp [PacedAfter, *] at hu

/-- After T_TIMEOUT_US + LONG_US + 2 such steps only IDLE is left. -/
theorem PacedAfter.idle {n : Nat} (hu : PacedAfter n u) (hn : Config.hw.timeoutUs + Config.hw.longUs + 1 < n) : u.st = .idle := by
  cases hst : u.st with
  | idle => rfl
  | selRd | selWr | selSlp =>
    simp [PacedAfter, hst] at hu hn
    omega
  | unattached | attWr | relWr => simp [PacedAfter, hst] at hu

/-- A SELECT `n` steps after its acceptance, with all that has passed on the ports since: one response is given or owed. -/
structure PacedRun (n : Nat) (es : List Event) (u : State) : Prop where
  stands : PacedAfter n u
  oneResponse : (responsesIn es).length + (if u.st.busy then 1 else 0) = 1

theorem PacedRun.step {n : Nat} (hu : PacedRun n es u) (h : StepBody u v) (hcmd : commandsIn (newEvents u v) = [])
    (hclock : 1 ≤ u.input.advance) : PacedRun (n + 1) (es ++ newEvents u v) v.advance := by
  refine ⟨hu.stands.step h hcmd hclock, ?_⟩
  have hbalance := h.commands_balance_responses
  have hone := hu.oneResponse
  rw [hcmd, List.length_nil] at hbalance
  rw [responsesIn_append, List.length_append, State.advance_st]
  omega

end Sys2Proof.Machine
end

section
/-! PROOFS. The statements of 42_select.md. -/

namespace Sys2Proof.Machine

/-- Settles O14: the comparison is the sign of the difference of the times. -/
theorem counterComparisonAgreesWithNaturals : Obligations.CounterComparisonAgreesWithNaturals := by
  intro w t x hw ht hx
  rw [timeGeHw, toInt_ofNat_sub_ofNat hw ht hx]
  exact decide_eq_decide.mpr (by omega)

/-- Settles O23: the accept step by its meaning; the deadline is set by no step that accepts no command; and the last clause is
that of O41. -/
theorem selectAcceptOpensTheWindow : Obligations.SelectAcceptOpensTheWindow := by
  refine ⟨fun s hst => ?accept, fun s t hbusy hstep => ?deadline, fun s t d hst hstep hslp => ?delay⟩
  case accept =>
    rw [exec, execSelect, if_pos ((channelOk_hw 0#4).mpr rfl), if_pos hst]
    exact congrArg (fun tr => Host.Outcome.next { s.selectAccepted.advance with trace := tr }) (List.append_assoc ..)
  case deadline =>
    obtain ⟨u, hbody, rfl⟩ := step_next_body hstep
    exact hbody.deadline_eq (hbody.commandsIn_eq_nil_of_busy hbusy)
  case delay =>
    obtain ⟨t', hstep', -, hsame⟩ := oldRetryDelayIsNeverRead s t d hstep
    rw [hstep', hsame hst hslp]

/-- Settles O30: the three outcomes of the SEL_SLP step. -/
theorem sleepEndsAtItsSample : Obligations.SleepEndsAtItsSample := by
  intro s hst hcmd
  have hbusy : s.st.busy = true := by rw [hst]; rfl
  refine ⟨fun hwake => ?hold, fun hwake hdeadline => ?timeout, fun hwake hdeadline => ?poll⟩
  case hold => exact (StepBody.sleepHold hst hwake).step_eq_of_busy hbusy hcmd
  case timeout =>
    rw [(StepBody.sleepTimeout hst hwake hdeadline).step_eq_of_busy hbusy hcmd]
    exact congrArg Host.Outcome.next (State.emit_raise_timeout_advance s _)
  case poll => exact (StepBody.sleepPoll hst hwake hdeadline).step_eq_of_busy hbusy hcmd

/-- Settles O29: the connected read, and then waits in IDLE. -/
theorem acquiredExitStopsTheWrites : Obligations.AcquiredExitStopsTheWrites := by
  intro n s b hst hread hconn hquiet hpos hn
  obtain ⟨n, rfl⟩ := Nat.exists_eq_add_one.mpr hpos
  have hcmd : s.input.cmd = none := hquiet _ (input_mem_env (u := s) rfl (hpos.trans_le hn))
  have hstep := (StepBody.readConnected b hst hread (classify_eq_connected.mpr hconn)).step_eq_of_busy
    (by rw [hst]; rfl) hcmd
  have hquiet' : ∀ i ∈ s.env.tail, i.cmd = none := fun i hi => hquiet i (List.mem_of_mem_tail hi)
  have hn' : n ≤ s.env.tail.length := by rw [List.length_tail]; exact Nat.le_sub_one_of_lt hn
  obtain ⟨t, hrun, hwaits⟩ := runsTo_waits
    (s := ({ s.emit [.txn 0x0010000#26 s.input.ans] with ctlObs := b }.succeed .idle).advance) rfl hquiet' n hn'
  exact ⟨t, runsTo_of_step hstep hrun, hwaits.st, hwaits.retryDelay, hwaits.deadline, hwaits.wakeAt,
    newEvents_of_append (hwaits.trace.trans (List.append_assoc ..))⟩

/-- Settles O52: SELECT's accept step, the read and the write of the first iteration, the end of a sleep that has not reached the
deadline, and the connected read of the second. -/
theorem requestThenGrantTakesTwoPolls : Obligations.RequestThenGrantTakesTwoPolls := by
  intro s i0 i1 i2 i3 i4 rest b c hst henv hcmd0 hcmd1 hcmd2 hcmd3 hcmd4 hread1 hclass1 hwrite2 hread4 hclass4 htime
  obtain ⟨st, delay, deadline, wakeAt, obs, attached, env, now, tr, tick⟩ := s
  obtain rfl : st = .idle := hst
  obtain rfl : env = i0 :: i1 :: i2 :: i3 :: i4 :: rest := henv
  have hwake : now + i0.advance + i1.advance + i2.advance + Config.hw.shortUs ≤
      now + i0.advance + i1.advance + i2.advance + i3.advance := Nat.add_le_add_left (Nat.zero_le _) _
  have hopen : now + i0.advance + i1.advance + i2.advance + i3.advance < now + i0.advance + Config.hw.timeoutUs := by
    omega
  refine runsTo_of_step (step_of_select_command rfl hcmd0) ?_
  refine runsTo_of_step (StepBody.step_eq_of_busy (.readOther b rfl hread1 hclass1) rfl hcmd1) ?_
  refine runsTo_of_step (StepBody.step_eq_of_busy (.requestDone rfl hwrite2) rfl hcmd2) ?_
  refine runsTo_of_step (StepBody.step_eq_of_busy (.sleepPoll rfl hwake hopen) rfl hcmd3) ?_
  refine runsTo_of_step (StepBody.step_eq_of_busy (.readConnected c rfl hread4 hclass4) rfl hcmd4) (runsTo_zero.mpr ?_)
  simp [State.advance, State.succeed, State.respond, State.sleepEntry, State.emit, State.sample, State.input]

/-- Settles O56: the SELECT waits LONG_US after each read and reads only inside the window. -/
theorem contendedSelectReadsAtMost250Times : Obligations.ContendedSelectReadsAtMost250Times := by
  intro n s i0 rest hst henv hselect hrest hpos hn
  obtain ⟨n, rfl⟩ := Nat.exists_eq_add_one.mpr hpos
  rw [henv, List.length_cons, Nat.add_le_add_iff_right] at hn
  obtain ⟨t, hrun, k, hstands, htxns, hresps⟩ := runsTo_select (P := fun _ es u => ∃ k, ContendedRun k es u)
    hst henv hselect (fun i hi => (hrest i hi).1)
    ⟨0, by simp [ContendedAfter, State.selectAccepted], by simp, by simp [State.selectAccepted]⟩
    (fun _ _ u v ⟨k, hu⟩ hmem hbody hcmd => by
      obtain ⟨-, b, hread, hclass⟩ := hrest _ hmem
      exact hu.step hbody hcmd hread hclass) hn
  refine ⟨t, k, hrun, hstands.reads_le, htxns, fun hidle => ?_, fun hne => by rw [hresps, if_neg hne]⟩
  simp only [ContendedAfter, hidle] at hstands
  obtain ⟨hreads, -, hdelay⟩ := hstands
  exact ⟨by rw [hresps, if_pos hidle], hreads, hdelay⟩

/-- Settles O57: by then only IDLE is left, where no response is owed any more. -/
theorem selectAnswersWhileTheClockAdvances : Obligations.SelectAnswersWhileTheClockAdvances := by
  intro s i0 rest hst henv hselect hrest hlen
  obtain ⟨t, hrun, hstands, hone⟩ := runsTo_select (P := PacedRun) (n := Config.hw.timeoutUs + Config.hw.longUs + 9)
    hst henv hselect (fun i hi => (hrest i hi).1)
    ⟨by simp [PacedAfter, State.selectAccepted], by simp [State.selectAccepted, SeqState.busy]⟩
    (fun _ _ u v hu hmem hbody hcmd => hu.step hbody hcmd (hrest _ hmem).2) (by omega)
  have hidle := hstands.idle (by omega)
  exact ⟨_, t, Nat.le_refl _, Nat.succ_pos _, hrun, hidle, by simpa [hidle, SeqState.busy] using hone⟩

end Sys2Proof.Machine
end

section
/-! PROOFS. The two steps of a RELEASE as whole next states, and a RELEASE as a run of two steps (R160 to R162). -/

namespace Sys2Proof.Machine

variable {s : State} {e : ErrPayload} {i0 i1 : Input} {rest : List Input}

/-! ## The meaning of RELEASE and of its write in the states that have it -/

/-- The accept step of RELEASE 0 (R160). -/
theorem exec_release_of_idle (hst : s.st = .idle) :
    exec (.release 0#4) s = .next { s.emit [.cmd 0x03#8] with st := .relWr }.advance := by
  rw [exec, execRelease, if_pos ((channelOk_hw 0#4).mpr rfl), if_pos hst]
  rfl

theorem exec_wrRel_of_relWr (hst : s.st = .relWr) : exec .wrRel s = .next (releaseWrite Config.hw s).advance := by
  rw [exec, execWrRel, hst]

/-- WR_REL of RELEASE with a successful answer ends the command with OK (R161). -/
theorem exec_wrRel_of_write_ok (hst : s.st = .relWr) (hans : writeResult s.input.ans = .ok ()) :
    exec .wrRel s = .next { s with
      st := .idle, trace := s.trace ++ [.txn 0x1010000#26 s.input.ans, .resp 0x0000#16],
      now := s.sample, env := s.env.tail, tick := s.tick + 1 } := by
  rw [exec_wrRel_of_relWr hst, releaseWrite_ok _ _ hans]
  exact congrArg Host.Outcome.next (State.emit_succeed_advance s _ .idle)

/-- WR_REL of RELEASE with a failed answer ends the command with the transport's error (R161). -/
theorem exec_wrRel_of_write_error (hst : s.st = .relWr) (hans : writeResult s.input.ans = .error e) :
    exec .wrRel s = .next { s with
      st := .idle, trace := s.trace ++ [.txn 0x1010000#26 s.input.ans, .resp (respWord .transport e)],
      now := s.sample, env := s.env.tail, tick := s.tick + 1 } := by
  rw [exec_wrRel_of_relWr hst, releaseWrite_error _ _ _ hans]
  exact congrArg Host.Outcome.next (State.emit_raise_transport_advance s _ e (by simp [hst]))

/-- The answer to the write of RELEASE picks the response and nothing else. -/
theorem exec_wrRel_of_any_answer (hst : s.st = .relWr) :
    ∃ w, exec .wrRel s = .next { s with
      st := .idle, trace := s.trace ++ [.txn 0x1010000#26 s.input.ans, .resp w],
      now := s.sample, env := s.env.tail, tick := s.tick + 1 } := by
  obtain ⟨-, -, hans⟩ | ⟨-, -, hans⟩ := answer_cases s.input.ans
  · exact ⟨_, exec_wrRel_of_write_ok hst hans⟩
  · exact ⟨_, exec_wrRel_of_write_error hst hans⟩

/-! ## A whole RELEASE -/

/-- The state after a RELEASE with the input records `i0` and `i1` and the response `w`: no register differs from those of `s`. -/
def State.released (s : State) (i0 i1 : Input) (w : RespWord) : State :=
  { s with
    trace := s.trace ++ [.cmd 0x03#8, .txn 0x1010000#26 i1.ans, .resp w]
    now := s.now + i0.advance + i1.advance
    env := s.env.tail.tail
    tick := s.tick + 2 }

/-- RELEASE is its accept step and its write, whatever is answered (R160, R161). -/
theorem runsTo_released (hst : s.st = .idle) (henv : s.env = i0 :: i1 :: rest) (hcmd0 : i0.cmd = some 0x03#8)
    (hcmd1 : i1.cmd = none) : ∃ w, runsTo 2 s (s.released i0 i1 w) := by
  have hinput : s.input = i0 := State.input_of_env _ _ _ henv
  have haccept := (step_of_decoded_command (.inr hst) (hinput ▸ hcmd0) rfl).trans (exec_release_of_idle hst)
  have hnext := input_of_step henv haccept
  obtain ⟨w, hwrite⟩ := exec_wrRel_of_any_answer (s := { s.emit [.cmd 0x03#8] with st := .relWr }.advance) rfl
  rw [State.sample, hnext] at hwrite
  have hrun := runsTo_two_of_steps haccept ((step_of_fetch_run (fetch_of_relWr rfl (hnext ▸ hcmd1))).trans hwrite)
  have hsample : s.sample = s.now + i0.advance := by rw [State.sample, hinput]
  exact ⟨w, by simpa [State.released, hsample, hst] using hrun⟩

end Sys2Proof.Machine
end

section
/-! PROOFS. The statements of 43_release.md. -/

namespace Sys2Proof.Machine

/-- Settles O54: a RELEASE is two steps from IDLE back to IDLE that write no other register, so the second runs like the first. -/
theorem twoReleasesIssueTheSameWrite : Obligations.TwoReleasesIssueTheSameWrite := by
  intro s i0 i1 i2 i3 rest hst henv hcmd0 hcmd1 hcmd2 hcmd3
  obtain ⟨w, hfirst⟩ := runsTo_released hst henv hcmd0 hcmd1
  have hidle : (s.released i0 i1 w).st = .idle := hst
  have hrest : (s.released i0 i1 w).env = i2 :: i3 :: rest := congrArg (·.tail.tail) henv
  obtain ⟨w', hsecond⟩ := runsTo_released hidle hrest hcmd2 hcmd3
  refine ⟨_, (runsTo_add hfirst).mpr hsecond, hidle, ?_, ?_, rfl, rfl, rfl, rfl, rfl⟩ <;> simp [newEvents, State.released]

/-- Settles O24: the accept step by its meaning. -/
theorem releaseAccept : Obligations.ReleaseAccept := fun _ => exec_release_of_idle

/-- Settles O26: by the answer to the release write. -/
theorem releaseWriteEndsTheCommand : Obligations.ReleaseWriteEndsTheCommand :=
  ⟨fun _ => exec_wrRel_of_write_ok, fun _ _ => exec_wrRel_of_write_error⟩

end Sys2Proof.Machine
end

section
/-! PROOFS. The steps of ATTACH and DETACH as whole next states, which commands a state accepts, and the steps that answer
UNSUPPORTED or TIMEOUT (R170 to R176). -/

namespace Sys2Proof.Machine

variable {s u : State} {w : CmdWord} {i : Instr} {e : ErrPayload}

/-! ## The meaning of each command in its state and in the others -/

/-- ATTACH without the capability answers UNSUPPORTED and stays (R170). -/
theorem exec_attach_of_no_caps (hst : s.st = .unattached) (hcaps : s.input.caps = false) :
    exec .attach s = .next { s with
      trace := s.trace ++ [.cmd 0x01#8, .resp 0x0003#16], now := s.sample, env := s.env.tail, tick := s.tick + 1 } := by
  rw [exec, execAttach, if_pos hst, if_neg (Bool.eq_false_iff.mp hcaps)]
  simp [State.advance, State.raise, State.respond, State.emit, ArbcError.code, ArbcError.payload, hst]

/-- ATTACH with the capability goes on to its release write (R170). -/
theorem exec_attach_of_caps (hst : s.st = .unattached) (hcaps : s.input.caps = true) :
    exec .attach s = .next { s.emit [.cmd 0x01#8] with st := .attWr }.advance := by
  rw [exec, execAttach, if_pos hst, if_pos hcaps]
  rfl

theorem exec_attach_refused (hst : s.st ≠ .unattached) : exec .attach s = .refused (.commandInState s.st) := if_neg hst

theorem exec_select_of_idle (hst : s.st = .idle) : exec (.select 0#4) s = .next s.selectAccepted.advance := by
  rw [exec, execSelect, if_pos ((channelOk_hw 0#4).mpr rfl), if_pos hst]
  rfl

theorem exec_select_refused (hst : s.st ≠ .idle) : exec (.select 0#4) s = .refused (.commandInState s.st) := by
  rw [exec, execSelect, if_pos ((channelOk_hw 0#4).mpr rfl), if_neg hst]

theorem exec_release_refused (hst : s.st ≠ .idle) : exec (.release 0#4) s = .refused (.commandInState s.st) := by
  rw [exec, execRelease, if_pos ((channelOk_hw 0#4).mpr rfl), if_neg hst]

/-- DETACH is one step with a response and no transaction (R173). -/
theorem exec_detach_of_idle (hst : s.st = .idle) :
    exec .detach s = .next { s with
      st := .unattached, attachOk := false, trace := s.trace ++ [.cmd 0x04#8, .resp 0x0000#16],
      now := s.sample, env := s.env.tail, tick := s.tick + 1 } := by
  rw [exec, execDetach, if_pos hst]
  exact congrArg Host.Outcome.next (State.emit_succeed_advance { s with attachOk := false } _ .unattached)

theorem exec_detach_refused (hst : s.st ≠ .idle) : exec .detach s = .refused (.commandInState s.st) := if_neg hst

/-! ## Which commands a state accepts -/

/-- R175's table. -/
def SeqState.Accepts (st : SeqState) (w : CmdWord) : Prop :=
  st = .unattached ∧ w = 0x01#8 ∨ st = .idle ∧ (w = 0x02#8 ∨ w = 0x03#8 ∨ w = 0x04#8)

theorem SeqState.Accepts.waiting (h : s.st.Accepts w) : s.st = .unattached ∨ s.st = .idle :=
  h.imp And.left And.left

/-- The meaning of a command takes a step in the state that accepts its word. -/
theorem exec_next_of_accepts (hdec : decode (.cmd w) = .ok i) (h : s.st.Accepts w) : ∃ t, exec i s = .next t := by
  obtain ⟨rfl, rfl⟩ | ⟨rfl, rfl⟩ | ⟨rfl, rfl⟩ | ⟨rfl, rfl⟩ := decode_cmd_eq_ok_iff.mp hdec
  · have hst : s.st = .unattached := by simpa [SeqState.Accepts] using h
    cases hcaps : s.input.caps with
    | false => exact ⟨_, exec_attach_of_no_caps hst hcaps⟩
    | true => exact ⟨_, exec_attach_of_caps hst hcaps⟩
  all_goals have hst : s.st = .idle := by simpa [SeqState.Accepts] using h
  · exact ⟨_, exec_select_of_idle hst⟩
  · exact ⟨_, exec_release_of_idle hst⟩
  · exact ⟨_, exec_detach_of_idle hst⟩

/-- The meaning of a command refuses in every other state. -/
theorem exec_refused_of_not_accepts (hdec : decode (.cmd w) = .ok i) (h : ¬ s.st.Accepts w) :
    exec i s = .refused (.commandInState s.st) := by
  obtain ⟨rfl, rfl⟩ | ⟨rfl, rfl⟩ | ⟨rfl, rfl⟩ | ⟨rfl, rfl⟩ := decode_cmd_eq_ok_iff.mp hdec
  · exact exec_attach_refused fun hst => h (.inl ⟨hst, rfl⟩)
  · exact exec_select_refused fun hst => h (.inr ⟨hst, .inl rfl⟩)
  · exact exec_release_refused fun hst => h (.inr ⟨hst, .inr (.inl rfl)⟩)
  · exact exec_detach_refused fun hst => h (.inr ⟨hst, .inr (.inr rfl)⟩)

/-- The step refuses a command that its meaning refuses: a busy ARBC does not even ask it (R207). -/
theorem step_refused_of_exec_refused (hcmd : s.input.cmd = some w) (hdec : decode (.cmd w) = .ok i)
    (h : exec i s = .refused (.commandInState s.st)) : step s = .refused (.commandInState s.st) := by
  by_cases hbusy : s.st.busy = true
  · exact step_of_busy_command hbusy hcmd
  · exact (step_of_decoded_command (SeqState.waiting_of_not_busy hbusy) hcmd hdec).trans h

/-! ## The release write of ATTACH, by its answer and the policy -/

theorem exec_wrRel_of_attWr (hst : s.st = .attWr) : exec .wrRel s = .next (attachReset Config.hw s).advance := by
  rw [exec, execWrRel, hst]

/-- ATTACH ends attached when its write succeeds, and under `attachAnyway` when it fails (R171). -/
theorem attachReset_of_done {p : Config.Params}
    (hdone : writeResult s.input.ans = .ok () ∨ p.attachOnReleaseError = .attachAnyway) :
    attachReset p s = { s with
      st := .idle, attachOk := true,
      trace := s.trace ++ [.txn (txnWrRel p).word s.input.ans, .resp 0x0000#16] } := by
  rw [attachReset_eq_attached hdone]
  simp [State.succeed, State.respond, State.emit]

/-- Under `stayUnattached` a failed write ends ATTACH where it came from, with the transport's error (R171, R204). -/
theorem attachReset_of_stayUnattached {p : Config.Params} (hst : s.st = .attWr) (hans : writeResult s.input.ans = .error e)
    (hpolicy : p.attachOnReleaseError = .stayUnattached) :
    attachReset p s = { s with
      st := .unattached,
      trace := s.trace ++ [.txn (txnWrRel p).word s.input.ans, .resp (respWord .transport e)] } := by
  obtain ⟨-, h⟩ | ⟨hany, -⟩ := attachReset_error_cases p e s hans
  · rw [h]
    simp [State.raise, State.respond, State.emit, ArbcError.code, ArbcError.payload, hst]
  · simp [hpolicy] at hany

/-! ## The sources of UNSUPPORTED and TIMEOUT -/

/-- A transport error is told from every response with another code, whatever its payload is (R75). -/
theorem ne_respWord_transport {r : RespWord} (hcode : respCodeBits r ≠ 0b10#2) (e : ErrPayload) :
    r ≠ respWord .transport e := by
  rintro rfl
  exact hcode (respCodeBits_respWordOf e .transport)

/-- UNSUPPORTED is the answer to an ATTACH without the capability (R176, R203). -/
theorem StepBody.source_of_unsupported (h : StepBody s u)
    (hresp : respWord .unsupported 0x00#8 ∈ responsesIn (newEvents s u)) :
    s.st = .unattached ∧ s.input.caps = false ∧ u = (s.emit [.cmd 0x01#8]).raise .unsupported := by
  cases h with
  | attachUnsupported hst hcaps => exact ⟨hst, hcaps, rfl⟩
  | attachFailed | readFailed | requestFailed | releaseFailed =>
    simp [newEvents, ne_respWord_transport (r := 0x0003#16) (by decide)] at hresp
  | _ => simp [newEvents] at hresp

/-- TIMEOUT is the answer of a sleep that ends at or past the deadline (R144, R202). -/
theorem StepBody.source_of_timeout (h : StepBody s u)
    (hresp : respWord .timeout 0x00#8 ∈ responsesIn (newEvents s u)) :
    s.st = .selSlp ∧ s.wakeAt ≤ s.sample ∧ s.deadline ≤ s.sample ∧
      u = (s.emit [.sample s.sample]).raise .timeout := by
  cases h with
  | sleepTimeout hst hwake hdeadline => exact ⟨hst, hwake, hdeadline, rfl⟩
  | attachFailed | readFailed | requestFailed | releaseFailed =>
    simp [newEvents, ne_respWord_transport (r := 0x0001#16) (by decide)] at hresp
  | _ => simp [newEvents] at hresp

end Sys2Proof.Machine
end

section
/-! PROOFS. The statements of 44_attach_detach.md. -/

namespace Sys2Proof.Machine

/-- Settles O18: the step is the meaning of the command, which decides by R175's table. -/
theorem commandAcceptedOnlyInItsState : Obligations.CommandAcceptedOnlyInItsState := by
  intro s w i hcmd hdec
  refine ⟨fun hacc : s.st.Accepts w => ?accepted, fun hacc : ¬ s.st.Accepts w => ?refused⟩
  case accepted =>
    obtain ⟨t, hexec⟩ := exec_next_of_accepts hdec hacc
    have hstep := (step_of_decoded_command hacc.waiting hcmd hdec).trans hexec
    exact ⟨t, hstep, by rw [commandsIn_step hstep, hcmd]; rfl⟩
  case refused =>
    have hexec := exec_refused_of_not_accepts hdec hacc
    exact ⟨step_refused_of_exec_refused hcmd hdec hexec, hexec⟩

/-- Settles O38: the one outcome of a step that passes each of the two words; TIMEOUT leaves ARBC in IDLE. -/
theorem timeoutAndUnsupportedHaveOneSource : Obligations.TimeoutAndUnsupportedHaveOneSource := by
  intro s t hstep
  obtain ⟨u, hbody, hcmd, rfl⟩ := step_next_iff.mp hstep
  rw [newEvents_advance, hbody.transactionsIn_eq]
  refine ⟨fun hresp => ?unsupported, fun hresp => ?timeout⟩
  case unsupported =>
    obtain ⟨hst, hcaps, rfl⟩ := hbody.source_of_unsupported hresp
    have hword : s.input.cmd = some 0x01#8 := by simpa [newEvents] using hcmd.symm
    exact ⟨hst, fetch_of_command (.inl hst) hword rfl, hcaps, by simp, by rw [hst]; rfl⟩
  case timeout =>
    obtain ⟨hst, hwake, hdeadline, rfl⟩ := hbody.source_of_timeout hresp
    have hidle : ((s.emit [.sample s.sample]).raise .timeout).advance.st = .idle := by simp
    exact ⟨hst, hwake, hdeadline, hidle, by rw [hst]; rfl, _, exec_select_of_idle hidle⟩

/-- Settles O55: the accept step with the capability, then the release write with its OK. -/
theorem attachIssuesOneReleaseWrite : Obligations.AttachIssuesOneReleaseWrite := by
  intro s i0 i1 rest hst henv hcmd0 hcaps hcmd1 hans
  have hinput : s.input = i0 := State.input_of_env _ _ _ henv
  have haccept := (StepBody.attachAccept hst (hinput ▸ hcaps)).step_eq (by simp [newEvents, hinput, hcmd0])
  have hnext := input_of_step henv haccept
  rw [← hnext] at hcmd1 hans ⊢
  have hwrite := (StepBody.attachDone rfl (.inl hans)).step_eq_of_busy rfl hcmd1
  exact ⟨⟨_, runsTo_one_of_step haccept, rfl, rfl⟩, _, runsTo_two_of_steps haccept hwrite, rfl, rfl,
    by simp [newEvents], rfl, rfl, rfl, rfl⟩

/-- Settles O20: by the capability input. -/
theorem attachAccept : Obligations.AttachAccept :=
  fun _ hst => ⟨exec_attach_of_no_caps hst, exec_attach_of_caps hst⟩

/-- Settles O32: by the policy. -/
theorem failedAttachResetUnderEachPolicy : Obligations.FailedAttachResetUnderEachPolicy :=
  fun _ _ _ hst hans => ⟨attachReset_of_stayUnattached hst hans, fun hpolicy => attachReset_of_done (.inr hpolicy)⟩

/-- Settles O21: by the answer and, after a failure, by this hardware's policy, for either of its values. -/
theorem attachResetWritesRelease : Obligations.AttachResetWritesRelease := by
  refine ⟨fun s hst hans => ?done, fun s e hst hans => ?failed⟩ <;> rw [exec_wrRel_of_attWr hst]
  case done =>
    rw [attachReset_of_done (.inl hans)]
    rfl
  case failed =>
    cases hpolicy : Config.attachOnReleaseError with
    | stayUnattached =>
      rw [attachReset_of_stayUnattached (p := Config.hw) hst hans hpolicy]
      rfl
    | attachAnyway =>
      rw [attachReset_of_done (p := Config.hw) (.inr hpolicy)]
      rfl

/-- Settles O22: by the state. -/
theorem detachStep : Obligations.DetachStep := ⟨rfl, fun _ => ⟨exec_detach_of_idle, exec_detach_refused⟩⟩

end Sys2Proof.Machine
end

section
/-! PROOFS. What raising an error leaves, the outcome of a failed transaction, and the steps that do not read the deadline
(R201, R204, R206). -/

namespace Sys2Proof.Machine

variable {s u : State}

/-- Raising an error passes its word and moves `st`; no other register is written (R204). -/
theorem State.raise_eq (s : State) (x : ArbcError) :
    s.raise x = { s with st := raiseTarget x s.st, trace := s.trace ++ [.resp x.word] } := rfl

/-! ## Failed transactions -/

/-- A failed transaction raises a transport error with the payload of its answer, unless ATTACH attaches all the same (R201). -/
theorem StepBody.eq_raise_of_failed (h : StepBody s u) (hans : ansOk s.input.ans = false)
    (hst : s.st = .selRd ∨ s.st = .selWr ∨ s.st = .relWr ∨ s.st = .attWr) (hend : s.st ≠ .attWr ∨ u.st = .unattached) :
    ∃ w, u = (s.emit [.txn w s.input.ans]).raise (.transport (ansErr s.input.ans)) := by
  obtain ⟨hread, hwrite⟩ := (answer_cases s.input.ans).resolve_left (by simp [hans]) |>.right
  cases h with
  | attachFailed e _ herr _ | requestFailed e _ herr | releaseFailed e _ herr =>
    obtain rfl := Except.error.inj (hwrite.symm.trans herr)
    exact ⟨_, rfl⟩
  | readFailed e _ herr =>
    obtain rfl := Except.error.inj (hread.symm.trans herr)
    exact ⟨_, rfl⟩
  | attachDone hatt => simp [hatt] at hend
  | readConnected _ _ hok | readRequested _ _ hok | readOther _ _ hok => cases hread.symm.trans hok
  | requestDone _ hok | releaseDone _ hok => cases hwrite.symm.trans hok
  | wait hwait => obtain hwait | hwait := hwait <;> simp [hwait] at hst
  | attachAccept hother | attachUnsupported hother | detach hother | selectAccept hother | releaseAccept hother
  | sleepHold hother | sleepTimeout hother | sleepPoll hother => simp [hother] at hst

/-! ## Another deadline -/

/-- `s` with another value in `deadline`. -/
def State.withDeadline (s : State) (d : Nat) : State := { s with deadline := d }

/-- Outside SEL_SLP no condition of an outcome reads the deadline, so the same outcome is possible whatever it is: SELECT's accept
step overwrites it, the others keep it. -/
theorem StepBody.withDeadline (h : StepBody s u) (hne : s.st ≠ .selSlp) (d : Nat) :
    ∃ d', StepBody (s.withDeadline d) (u.withDeadline d') := by
  cases h with
  | sleepHold hst | sleepTimeout hst | sleepPoll hst => exact absurd hst hne
  | selectAccept hst => exact ⟨s.sample + Config.hw.timeoutUs, .selectAccept hst⟩
  | wait hst => exact ⟨d, .wait hst⟩
  | attachAccept hst hcaps => exact ⟨d, .attachAccept hst hcaps⟩
  | attachUnsupported hst hcaps => exact ⟨d, .attachUnsupported hst hcaps⟩
  | attachDone hst hdone => exact ⟨d, .attachDone hst hdone⟩
  | attachFailed e hst hans hpolicy => exact ⟨d, .attachFailed e hst hans hpolicy⟩
  | detach hst => exact ⟨d, .detach hst⟩
  | readConnected b hst hans hclass => exact ⟨d, .readConnected b hst hans hclass⟩
  | readRequested b hst hans hclass => exact ⟨d, .readRequested b hst hans hclass⟩
  | readOther b hst hans hclass => exact ⟨d, .readOther b hst hans hclass⟩
  | readFailed e hst hans => exact ⟨d, .readFailed e hst hans⟩
  | requestDone hst hans => exact ⟨d, .requestDone hst hans⟩
  | requestFailed e hst hans => exact ⟨d, .requestFailed e hst hans⟩
  | releaseAccept hst => exact ⟨d, .releaseAccept hst⟩
  | releaseDone hst hans => exact ⟨d, .releaseDone hst hans⟩
  | releaseFailed e hst hans => exact ⟨d, .releaseFailed e hst hans⟩

end Sys2Proof.Machine
end

section
/-! PROOFS. The statements of 60_exceptions.md. -/

namespace Sys2Proof.Machine

/-- Settles O37: the step raises the transport's error, which moves `st` and no other register. -/
theorem transportErrorIsPassedOnVerbatim : Obligations.TransportErrorIsPassedOnVerbatim := by
  intro s t hstep hans hst hend
  obtain ⟨u, hbody, rfl⟩ := step_next_body hstep
  obtain ⟨w, rfl⟩ := hbody.eq_raise_of_failed hans hst hend
  refine ⟨w, ?events, fun hne => ?idle, rfl, rfl, rfl, rfl, rfl⟩
  case events => simp [newEvents, ansErr_eq_bits]
  case idle => simp [hne]

/-- Settles O39: the step has the same outcome from the state with the other deadline, where the same command is presented. -/
theorem deadlineIsTestedOnlyAfterASleep : Obligations.DeadlineIsTestedOnlyAfterASleep := by
  intro s t d hne hstep
  obtain ⟨u, hbody, hcmd, rfl⟩ := step_next_iff.mp hstep
  obtain ⟨d', hbody'⟩ := hbody.withDeadline hne d
  exact ⟨_, hbody'.step_eq hcmd, rfl⟩

/-- Settles O19: the waiting outcomes of a step leave the state as it is, and then the environment moves on. -/
theorem waitingKeepsEveryRegister : Obligations.WaitingKeepsEveryRegister := by
  intro s hcmd hst
  have hquiet : commandsIn (newEvents s s) = s.input.cmd.toList := by rw [newEvents_self, hcmd]; rfl
  obtain hst | hst | ⟨hst, hwake⟩ := hst
  · exact (StepBody.wait (.inl hst)).step_eq hquiet
  · exact (StepBody.wait (.inr hst)).step_eq hquiet
  · exact (StepBody.sleepHold hst hwake).step_eq hquiet

/-- Settles O36: by the error; for a transport error the state it came from decides. -/
theorem errorEndsTheCommand : Obligations.ErrorEndsTheCommand := by
  intro s x
  rw [State.raise_eq]
  cases x with
  | transport | timeout | unsupported => simp

end Sys2Proof.Machine
end

section
/-! PROOFS. Which presented commands take a step (R175), and what the invariants ask of a state from which nothing has passed yet
(R230): none of them rests on a register that reset leaves unspecified (log 4). -/

namespace Sys2Proof.Machine

variable {s : State} {w : CmdWord}

/-- A word that a state accepts is the word of an instruction. -/
theorem SeqState.Accepts.decodes {st : SeqState} (h : st.Accepts w) : ∃ i, decode (.cmd w) = .ok i := by
  obtain ⟨-, rfl⟩ | ⟨-, rfl | rfl | rfl⟩ := h
  · exact ⟨.attach, rfl⟩
  · exact ⟨.select 0#4, rfl⟩
  · exact ⟨.release 0#4, rfl⟩
  · exact ⟨.detach, rfl⟩

/-- A step is taken with a presented word exactly if the state accepts it (R74, R175, R207). -/
theorem exists_step_iff_accepts (hcmd : s.input.cmd = some w) : (∃ t, step s = .next t) ↔ s.st.Accepts w := by
  constructor
  · rintro ⟨t, hstep⟩
    by_contra hacc
    have hrefused : ∃ r, step s = .refused r := by
      cases hdec : decode (.cmd w) with
      | error e => exact step_refused_of_undecoded hcmd hdec
      | ok i => exact ⟨_, step_refused_of_exec_refused hcmd hdec (exec_refused_of_not_accepts hdec hacc)⟩
    obtain ⟨r, hrefused⟩ := hrefused
    cases hstep.symm.trans hrefused
  · intro hacc
    obtain ⟨i, hdec⟩ := hacc.decodes
    rw [step_of_decoded_command hacc.waiting hcmd hdec]
    exact exec_next_of_accepts hdec hacc

theorem SeqState.accepts_unattached : SeqState.unattached.Accepts w ↔ w = 0x01#8 := by
  simp [SeqState.Accepts]

/-! ## The invariants before anything has passed on the ports -/

/-- In UNATTACHED no SELECT runs, so `deadline` and `wake_at` may hold anything. -/
theorem RegisterInv.of_unattached (hst : s.st = .unattached) (hok : s.attachOk = false)
    (hdelay : s.retryDelay = Config.hw.shortUs) : RegisterInv s where
  attached := by simp [hst, hok]
  delay := .inl hdelay
  window := by simp [hst, SeqState.inSelect]
  sleeping := by simp [hst]

theorem OneResponsePerCommand.of_trace_nil (htr : s.trace = []) (hst : s.st.busy = false) : OneResponsePerCommand s := by
  simp [OneResponsePerCommand, htr, hst]

theorem OnlyThreeTransactions.of_trace_nil (htr : s.trace = []) : OnlyThreeTransactions s := by
  simp [OnlyThreeTransactions, htr]

theorem RequestsFollowOtherReads.of_trace_nil (htr : s.trace = []) (hst : s.st ≠ .selWr) : RequestsFollowOtherReads s where
  past := by simp [htr]
  pending := fun h => absurd h hst

theorem SamplesOrdered.of_trace_nil (htr : s.trace = []) : SamplesOrdered s where
  sorted := by simp [htr]
  past := by simp [htr]

end Sys2Proof.Machine
end

section
/-! PROOFS. The statements of 70_reset_and_hazards.md. -/

namespace Sys2Proof.Machine

/-- Settles O43: the reset values are R230's, and of the commands UNATTACHED accepts ATTACH alone. -/
theorem powerOnReset : Obligations.PowerOnReset := by
  refine ⟨rfl, rfl, rfl, rfl, fun w inp hcmd => ?_⟩
  have hinput : ({ State.reset with env := [inp] } : State).input = inp := State.input_of_env _ inp [] rfl
  exact (exists_step_iff_accepts (hinput ▸ hcmd)).trans SeqState.accepts_unattached

/-- Settles O44: reset is UNATTACHED with SHORT_US, not attached, and nothing has passed on the ports. -/
theorem resetMeetsTheInvariants : Obligations.ResetMeetsTheInvariants :=
  ⟨.of_unattached rfl rfl rfl, .of_trace_nil rfl rfl, .of_trace_nil rfl, .of_trace_nil rfl nofun, .of_trace_nil rfl⟩

end Sys2Proof.Machine
end

section
/-! PROOFS. What placing a word of the opcode table does (log 15): a command word stands on the port of a state that accepts it, a
transaction's state takes its own step with no command presented. -/

namespace Sys2Proof.Machine

variable {s : State} {i : Instr}

/-- A number that the table reads as an instruction is a port word that decodes to it. -/
theorem decodeTableWord_eq_some_iff {nbits w : Nat} :
    decodeTableWord nbits w = some i ↔ ∃ pw, tableWord nbits w = some pw ∧ decode pw = .ok i := by
  unfold decodeTableWord
  cases tableWord nbits w with
  | none => simp
  | some pw => cases hdec : decode pw <;> simp [hdec]

theorem withFetchWord_of_tableWord {nbits w : Nat} {pw : PortWord} (h : tableWord nbits w = some pw) :
    s.withFetchWord nbits w = placeWord s pw := by
  rw [State.withFetchWord, h]

/-! ## A placed command word -/

theorem placeWord_cmd_accepted {w : CmdWord} (hdec : decode (.cmd w) = .ok i) :
    (placeWord s (.cmd w)).input.cmd = some w ∧ (placeWord s (.cmd w)).st.Accepts w := by
  obtain ⟨rfl, rfl⟩ | ⟨rfl, rfl⟩ | ⟨rfl, rfl⟩ | ⟨rfl, rfl⟩ := decode_cmd_eq_ok_iff.mp hdec
  · exact ⟨rfl, .inl ⟨rfl, rfl⟩⟩
  · exact ⟨rfl, .inr ⟨rfl, .inl rfl⟩⟩
  · exact ⟨rfl, .inr ⟨rfl, .inr (.inl rfl)⟩⟩
  · exact ⟨rfl, .inr ⟨rfl, .inr (.inr rfl)⟩⟩

/-! ## A placed transaction word -/

theorem placeWord_txn_no_command {w : TxnWord} (hdec : decode (.txn w) = .ok i) :
    (placeWord s (.txn w)).input.cmd = none := by
  cases i with
  | rdCtl | wrbReq | wrRel => simp [placeWord, hdec, State.input, placedInput]
  | attach | select | release | detach => cases encodeWith_of_decodeWith hdec

theorem fetch_placeWord_txn {w : TxnWord} (hdec : decode (.txn w) = .ok i) :
    fetch (placeWord s (.txn w)) = .run i := by
  have hcmd : (placeWord s (.txn w)).input.cmd = none := placeWord_txn_no_command hdec
  cases i with
  | rdCtl => exact fetch_of_selRd (by simp [placeWord, hdec]) hcmd
  | wrbReq => exact fetch_of_selWr (by simp [placeWord, hdec]) hcmd
  | wrRel =>
    cases hatt : s.attachOk with
    | true => exact fetch_of_relWr (by simp [placeWord, hdec, hatt]) hcmd
    | false => exact fetch_of_attWr (by simp [placeWord, hdec, hatt]) hcmd
  | attach | select | release | detach => cases encodeWith_of_decodeWith hdec

/-! ## Any placed word -/

/-- The step after placing a word that decodes is the meaning of its instruction, and ARBC takes it. -/
theorem step_placeWord {pw : PortWord} (hdec : decode pw = .ok i) :
    step (placeWord s pw) = exec i (placeWord s pw) ∧ ∃ t, step (placeWord s pw) = .next t := by
  cases pw with
  | cmd w =>
    obtain ⟨hcmd, hacc⟩ := placeWord_cmd_accepted (s := s) hdec
    exact ⟨step_of_decoded_command hacc.waiting hcmd hdec, (exists_step_iff_accepts hcmd).mpr hacc⟩
  | txn w =>
    exact ⟨step_of_fetch_run (fetch_placeWord_txn hdec), exists_step_of_no_command (placeWord_txn_no_command hdec)⟩

end Sys2Proof.Machine
end

section
/-! PROOFS. The statement on placed words of the opcode table (log 15). -/

namespace Sys2Proof.Machine

/-- Settles O17: a number the table reads as an instruction is a port word that decodes to it, and ARBC is placed where it runs
that word. -/
theorem placedWordIsRunNext : Obligations.PlacedWordIsRunNext := by
  intro s nbits w i h
  obtain ⟨pw, hword, hdec⟩ := decodeTableWord_eq_some_iff.mp h
  rw [withFetchWord_of_tableWord hword]
  exact step_placeWord hdec

end Sys2Proof.Machine
end
